-- ==== Sys2Proof/Word.lean ====
section
/-! DEFINITION. The word types of the GD48: bytes of line frames and the numbers that frames carry. -/

namespace Sys2Proof

/-- One byte of a line frame (R143). -/
abbrev Byte := BitVec 8

/-- A tray number as frames carry it: ten bits, 0 to 1023; 1023 stands for "no tray" (R143). -/
abbrev Tray := Fin 1024

/-- A chute number, 0 to 31. -/
abbrev Chute := Fin 32

/-- A station port number, 0 to 7. -/
abbrev StationPort := Fin 8

/-- A context index, 0 to 255. -/
abbrev ContextIndex := Fin 256

/-- A tote descriptor index, 0 to 127. -/
abbrev DescriptorIndex := Fin 128

/-- The tray number 1023, "no tray" (R1). -/
def noTray : Tray := 1023

end Sys2Proof
end

