-- ==== Sys2Proof/Syntax.lean ====
section
/-! DEFINITION. The commands of the GD48: one constructor of Instr for each row of spec/opcode_table.json, in the table's order. -/

namespace Sys2Proof

/-- The ten serial ports (00_scope, "Ports and pins"). -/
inductive Port where
  | station (p : StationPort)
  | line
  | sorter
  deriving DecidableEq, Repr

/-- The nine ports whose blocks' frames wait at the port (R152); the line link sends the outbound queue instead (R153). -/
inductive TxPort where
  | station (p : StationPort)
  | sorter
  deriving DecidableEq, Repr

/-- What an INDUCT frame says of a garment (R147, INDUCT layout). Each field is as wide as the frame's. -/
structure InductItem where
  category : Fin 64
  tier : Fin 8
  season : Fin 16
  size : Fin 16
  reason : Fin 16
  days : Fin 1024
  catalogue : BitVec 16
  orderRef : BitVec 32
  deriving DecidableEq, Repr

/-- Why a received frame is rejected (R145). -/
inductive RejectCause where
  | check
  | length
  | kind
  deriving DecidableEq, Repr

/-- The commands the block takes. A management command carries its tag and ALL its parameter bytes as the MGMT_CMD
frame holds them (R148), the target byte of a PORT_GO and the action byte of a CHUTE_CONTROL included, so that every
parameter check of the manual is modelled. A station or sorter frame carries its decoded fields. The other rows
are events of the block itself (a timer, a grading, a link) and carry what names the event. -/
inductive Instr where
  /-- INDUCT (R6). An INDUCT frame on the line link opens a context for its tray, replaces a context, or is refused. -/
  | induct (tray : Tray) (item : InductItem)
  /-- CONFIGURE (R173). Management command that clamps and writes the whole settings record, including the lock flag. -/
  | configure (tag : Byte) (params : List Byte)
  /-- PORT_CONFIG (R127). Management command that writes the expected class of a DETACHED station port. -/
  | portConfig (tag : Byte) (params : List Byte)
  /-- GO_DETACH (R129). PORT_GO target that takes a port to DETACHED from any state, stopping its timer, clearing the compound and reporting withdrawal where due. -/
  | goDetach (tag : Byte) (params : List Byte)
  /-- GO_LISTEN (R128). PORT_GO target that takes a DETACHED or FAULT port to LISTENING. -/
  | goListen (tag : Byte) (params : List Byte)
  /-- GO_PROBE (R128). PORT_GO target that sends PROBE to an ATTACHED or PROBED port and starts its 25 ms probe window. -/
  | goProbe (tag : Byte) (params : List Byte)
  /-- GO_READY (R128). PORT_GO target that takes a PROBED port to READY. -/
  | goReady (tag : Byte) (params : List Byte)
  /-- GO_PAUSE (R128). PORT_GO target that sends PAUSE to a READY port and starts its 500 ms acknowledgement timer. -/
  | goPause (tag : Byte) (params : List Byte)
  /-- GO_RESUME (R128). PORT_GO target that sends RESUME to a PAUSED port and starts its 100 ms acknowledgement timer. -/
  | goResume (tag : Byte) (params : List Byte)
  /-- GO_LISTEN_TO_READY (R130). PORT_GO target that sets the compound-pending flag and takes the port's first step towards READY. -/
  | goListenToReady (tag : Byte) (params : List Byte)
  /-- WRITE_WEIGHTS (R56). Management command that validates a run of defect weight entries and writes it once no grading holds the tables. -/
  | writeWeights (tag : Byte) (params : List Byte)
  /-- WRITE_PROFILE (R58). Management command that validates and writes one category profile entry, or makes it invalid. -/
  | writeProfile (tag : Byte) (params : List Byte)
  /-- WRITE_REASONS (R60). Management command that validates and writes all sixteen reason table entries. -/
  | writeReasons (tag : Byte) (params : List Byte)
  /-- WRITE_WINDOW (R70). Management command that validates and writes one disposition window of a grade. -/
  | writeWindow (tag : Byte) (params : List Byte)
  /-- WRITE_DEFAULT (R72). Management command that validates and writes the default target of a grade. -/
  | writeDefault (tag : Byte) (params : List Byte)
  /-- TABLE_WRITE (R54). A validated table-writing command that was waiting for a grading in flight is taken at a grading completion and writes its entries in one step. -/
  | tableWrite
  /-- CHAIN_LOAD (R106). Management command that takes FREE descriptors for a list of totes and appends them to a chute's chain. -/
  | chainLoad (tag : Byte) (params : List Byte)
  /-- CHAIN_CLEAR (R120). Management command that closes the active tote CLEARED, frees the pending and queued descriptors and makes the chute UNCONFIGURED. -/
  | chainClear (tag : Byte) (params : List Byte)
  /-- ENABLE (R121). CHUTE_CONTROL action that clears a chute's disabled flag. -/
  | enable (tag : Byte) (params : List Byte)
  /-- DISABLE (R121). CHUTE_CONTROL action that sets a chute's disabled flag. -/
  | disable (tag : Byte) (params : List Byte)
  /-- CLOSE_NOW (R115). CHUTE_CONTROL action that closes an OPEN chute's tote FORCED, or makes the chute CLOSING while orders are outstanding. -/
  | closeNow (tag : Byte) (params : List Byte)
  /-- ADVANCE (R119). CHUTE_CONTROL action that starts the kept chain of an EXHAUSTED chute by entering SWAPPING. -/
  | advance (tag : Byte) (params : List Byte)
  /-- ABANDON_TRAY (R24). Management command that closes the live context of a tray ABANDONED, or marks a GRADING context for abandon at completion. -/
  | abandonTray (tag : Byte) (params : List Byte)
  /-- READ_CONTEXT (R178). Management command that returns one part of a snapshot of a tray's live context. -/
  | readContext (tag : Byte) (params : List Byte)
  /-- READ_CHUTE (R179). Management command that returns a snapshot of a chute record, its active descriptor and its chain. -/
  | readChute (tag : Byte) (params : List Byte)
  /-- READ_TABLE (R180). Management command that returns one entry of a grading table, a window or a default target. -/
  | readTable (tag : Byte) (params : List Byte)
  /-- READ_STATUS (R181). Management command that returns a status snapshot of contexts, ports, links, queue, routes, descriptors, orders and settings. -/
  | readStatus (tag : Byte) (params : List Byte)
  /-- EVENT_ROUTE (R160). Management command that writes the route of one advisory event kind. -/
  | eventRoute (tag : Byte) (params : List Byte)
  /-- ACK_ATTENTION (R161). Management command that clears the attention state and releases ATTN_N. -/
  | ackAttention (tag : Byte) (params : List Byte)
  /-- SOFT_RESET (R182). Management command that returns every block's working state to its reset value in one step, then offers its result to an empty queue. -/
  | softReset (tag : Byte) (params : List Byte)
  /-- BAD_COMMAND (R170). An MGMT_CMD whose command code names no command ends its execution at once with result BAD_COMMAND. -/
  | badCommand (tag code : Byte) (params : List Byte)
  /-- OBS_DEFECT (R140). A valid OBS_DEFECT frame on a station port joins the port's inbound queue, or attaches a LISTENING port, or overruns a full queue. -/
  | obsDefect (port : StationPort) (tray : Tray) (code : Fin 128) (zone : Fin 4) (extent : Fin 8)
  /-- OBS_TAG (R140). A valid OBS_TAG frame on a station port joins the port's inbound queue, or attaches a LISTENING port, or overruns a full queue. -/
  | obsTag (port : StationPort) (tray : Tray) (present mismatch : Bool)
  /-- OBS_WEIGHT (R140). A valid OBS_WEIGHT frame on a station port joins the port's inbound queue, or attaches a LISTENING port, or overruns a full queue. -/
  | obsWeight (port : StationPort) (tray : Tray) (grams : BitVec 16)
  /-- ITEM_DONE (R140). A valid ITEM_DONE frame on a station port joins the port's inbound queue, or attaches a LISTENING port, or overruns a full queue. -/
  | itemDone (port : StationPort) (tray : Tray)
  /-- ANNOUNCE (R132). An ANNOUNCE taken in PROBING ends the probe with PROBED, or with FAULT on a class mismatch. -/
  | announce (port : StationPort) (cls cap : Byte)
  /-- PAUSE_ACK (R135). A PAUSE_ACK taken in PAUSING takes the port to PAUSED and reports its withdrawal. -/
  | pauseAck (port : StationPort)
  /-- RESUME_ACK (R136). A RESUME_ACK taken in RESUMING takes the port to READY. -/
  | resumeAck (port : StationPort)
  /-- IDLE (R154). An IDLE frame from a station attaches a LISTENING port and is otherwise taken with no effect. -/
  | idle (port : StationPort)
  /-- FRAME_REJECTED (R145). A received frame that fails a length, check or kind test is rejected and FRAME_REJECTED is offered. -/
  | frameRejected (port : Port) (bytes : List Byte)
  /-- PROBE_WINDOW_EXPIRY (R134). The 25 ms probe window runs out in PROBING and the port becomes PROBED with the expected class and BASIC, marked DEFAULTED. -/
  | probeWindowExpiry (port : StationPort)
  /-- PAUSE_TIMEOUT (R135). The 500 ms pause timer runs out in PAUSING and the port becomes PAUSED with PAUSE_FORCED and is withdrawn. -/
  | pauseTimeout (port : StationPort)
  /-- RESUME_TIMEOUT (R136). The 100 ms resume timer runs out in RESUMING and the port goes to FAULT with cause NO_RESUME. -/
  | resumeTimeout (port : StationPort)
  /-- TAKE_DEFECT_RECORD (R13). The item context table takes a DEFECT record from a port queue head, routes it and prices and merges it into the context's observation list. -/
  | takeDefectRecord (port : StationPort)
  /-- TAKE_TAG_RECORD (R18). The item context table takes a TAG record from a port queue head, routes it and merges its tags and mismatch flags. -/
  | takeTagRecord (port : StationPort)
  /-- TAKE_WEIGHT_RECORD (R17). The item context table takes a WEIGHT record from a port queue head, routes it and keeps the most unfavourable weight. -/
  | takeWeightRecord (port : StationPort)
  /-- TAKE_ITEM_DONE_RECORD (R19). The item context table takes an ITEM_DONE record from a port queue head, routes it and adds the port to the reported ports. -/
  | takeItemDoneRecord (port : StationPort)
  /-- GRADING_START (R27). The idle grading unit takes the head of a non-empty grading queue and the context becomes GRADING. -/
  | gradingStart
  /-- GRADING_COMPLETION (R43). A grading completes and its score parts, causes, grade and target are written and the context becomes GRADED, or it closes ABANDONED if marked. -/
  | gradingCompletion
  /-- DECISION_REQ (R83). A sorter decision request settles any outstanding order as an implied miss and is answered by the state of the tray's context. -/
  | decisionReq (tray : Tray)
  /-- DIVERT_DONE (R90). A sorter divert report commits a matching order, or counts a stray and closes or leaves the tray's context by its state. -/
  | divertDone (tray : Tray) (chute : Chute)
  /-- DIVERT_MISSED (R94). A sorter missed-divert report releases a matching order and returns its context to GRADED with a lap counted, or is unmatched. -/
  | divertMissed (tray : Tray) (chute : Chute)
  /-- ORDER_EXPIRY (R96). An order's timer runs out and the order is settled as missed, releasing its reservation and offering ORDER_EXPIRED. -/
  | orderExpiry (tray : Tray) (chute : Chute)
  /-- TOTE_FULL (R114). A sorter TOTE_FULL signal closes an OPEN chute's tote FULL_SIGNAL or makes the chute CLOSING, and is otherwise ignored. -/
  | toteFull (chute : Chute)
  /-- TOTE_IN_PLACE (R109). A sorter tote-in-place signal makes a SWAPPING chute's pending descriptor ACTIVE when the id matches, or reports a mismatch. -/
  | toteInPlace (chute : Chute) (toteId : BitVec 16)
  /-- CHUTE_JAM (R122). A sorter jam signal sets a chute's jammed flag and offers CHUTE_EVENT JAMMED. -/
  | chuteJam (chute : Chute)
  /-- CHUTE_CLEAR (R122). A sorter jam-clear signal clears a chute's jammed flag and offers CHUTE_EVENT JAM_CLEARED. -/
  | chuteClear (chute : Chute)
  /-- ENTRY_SENT (R153). The line link finishes sending the head entry of the outbound queue, the entry leaves and one waiting must-deliver record is admitted. -/
  | entrySent
  /-- PORT_FRAME_SENT (R152). A frame waiting at a station port or the sorter port is transmitted whole after the one before it. -/
  | portFrameSent (port : TxPort)
  /-- LINK_UP (R150). Carrier appears on a port's receive pair and its link becomes UP. -/
  | linkUp (port : Port)
  /-- LINK_DOWN (R150). Carrier has been absent for 20 ms and the link becomes DOWN, with its effect on the port, the sorter or the outbound queue. -/
  | linkDown (port : Port)
  /-- POWER_ON_RESET (R156). RESET_N is asserted and released and every piece of state takes its power-on value. -/
  | powerOnReset
  deriving DecidableEq, Repr

end Sys2Proof
end

