-- ==== Sys2Proof/Decode.lean ====
section
/-! DEFINITION. The line frame and its check (R143, R144), the frame tests (R145), and the frame decoder and encoder of the kinds
the engine receives (R146 to R148). The opcode table gives no bits to any row, so decodeTableWord answers none. -/

namespace Sys2Proof

/-! ### Bytes and numbers -/

/-- Two bytes, most significant first (R147). -/
def be16 (hi lo : Byte) : BitVec 16 := hi ++ lo

/-- Four bytes, most significant first (R147). -/
def be32 (b3 b2 b1 b0 : Byte) : BitVec 32 := be16 b3 b2 ++ be16 b1 b0

/-- The low byte of a number. -/
def byteOf (n : Nat) : Byte := BitVec.ofNat 8 n

/-- A number as two bytes, most significant first (R147). -/
def bytes2 (n : Nat) : List Byte := [byteOf (n / 256), byteOf n]

/-- A number as four bytes, most significant first (R147). -/
def bytes4 (n : Nat) : List Byte := bytes2 (n / 65536) ++ bytes2 n

/-- The field of n values that begins at bit lo of x; the bits above it are not read. -/
def fieldAt (n : Nat) [NeZero n] (x : Byte) (lo : Nat) : Fin n := Fin.ofNat n (x.toNat / 2 ^ lo)

/-- The byte at place i of a payload. -/
def byteAt (bs : List Byte) (i : Nat) : Byte := bs.getD i 0

/-! ### The check (R144) -/

/-- One bit into the CRC register: generator x^16 + x^12 + x^5 + 1 (R144). -/
def crcBit (r : BitVec 16) (b : Bool) : BitVec 16 :=
  if r.msb != b then (r <<< 1) ^^^ 0x1021#16 else r <<< 1

/-- One byte into the CRC register, most significant bit first (R144). -/
def crcByte (r : BitVec 16) (b : Byte) : BitVec 16 :=
  [7, 6, 5, 4, 3, 2, 1, 0].foldl (fun r i => crcBit r (b.getLsbD i)) r

/-- The register, starting at all ones, after the bytes; no final inversion (R144). -/
def crc16 (bs : List Byte) : BitVec 16 := bs.foldl crcByte 0xFFFF#16

/-- The bytes of a frame between its delimiters (R143): kind, length, tray, payload, check. -/
def frameBytes (kind : Byte) (tray : Tray) (payload : List Byte) : List Byte :=
  let body := kind :: byteOf payload.length :: bytes2 tray.val ++ payload
  body ++ bytes2 (crc16 body).toNat

/-! ### The frame kinds the engine receives (R146) -/

/-- The kinds that some port receives. -/
inductive InboundKind where
  | induct | mgmtCmd
  | announce | obsDefect | obsTag | obsWeight | itemDone | pauseAck | resumeAck | idle
  | decisionReq | divertDone | divertMissed | toteFull | toteInPlace | chuteJam | chuteClear
  deriving DecidableEq, Repr

/-- The code of an inbound kind (R146). -/
def InboundKind.code : InboundKind → Byte
  | .induct => 0x10 | .mgmtCmd => 0x11
  | .announce => 0x20 | .obsDefect => 0x21 | .obsTag => 0x22 | .obsWeight => 0x23
  | .itemDone => 0x24 | .pauseAck => 0x25 | .resumeAck => 0x26 | .idle => 0x27
  | .decisionReq => 0x30 | .divertDone => 0x31 | .divertMissed => 0x32 | .toteFull => 0x33
  | .toteInPlace => 0x34 | .chuteJam => 0x35 | .chuteClear => 0x36

/-- The kinds listed inbound for a port (R146). -/
def Port.receives : Port → List InboundKind
  | .line => [.induct, .mgmtCmd]
  | .station _ => [.announce, .obsDefect, .obsTag, .obsWeight, .itemDone, .pauseAck, .resumeAck, .idle]
  | .sorter => [.decisionReq, .divertDone, .divertMissed, .toteFull, .toteInPlace, .chuteJam, .chuteClear]

/-- The kind that a code names at a port, if the port receives it (test 4 of R145). -/
def Port.kindOf (p : Port) (code : Byte) : Option InboundKind := p.receives.find? (fun k => k.code == code)

/-- The payload lengths a kind allows (R146). -/
def InboundKind.allows (k : InboundKind) (n : Nat) : Bool :=
  match k with
  | .induct => n == 11
  | .mgmtCmd => 2 ≤ n && n ≤ 60
  | .announce | .obsDefect | .obsWeight => n == 2
  | .obsTag | .divertDone | .divertMissed | .toteFull | .chuteJam | .chuteClear => n == 1
  | .toteInPlace => n == 3
  | .itemDone | .pauseAck | .resumeAck | .idle | .decisionReq => n == 0

/-! ### The tests of R145 -/

/-- The bytes of a frame before its check. -/
def frameBody (bytes : List Byte) : List Byte := bytes.take (bytes.length - 2)

/-- The check a frame carries. -/
def frameCheck (bytes : List Byte) : BitVec 16 :=
  be16 (byteAt bytes (bytes.length - 2)) (byteAt bytes (bytes.length - 1))

/-- The five tests of R145 in their order: the cause of the first that fails and the kind code the event carries (0 under
test 1, R149), or none for a valid frame. -/
def frameVerdict (port : Port) (bytes : List Byte) : Option (RejectCause × Byte) :=
  let n := bytes.length
  let kind := byteAt bytes 0
  let len := (byteAt bytes 1).toNat
  if n < 6 || 66 < n then some (.length, 0)
  else if frameCheck bytes != crc16 (frameBody bytes) then some (.check, kind)
  else if 60 < len || len != n - 6 then some (.length, kind)
  else match port.kindOf kind with
    | none => some (.kind, kind)
    | some k => if k.allows len then none else some (.length, kind)

/-! ### From valid frames to commands -/

/-- The tray field: its low 10 bits (R143). -/
def frameTray (bytes : List Byte) : Tray := Fin.ofNat 1024 (be16 (byteAt bytes 2) (byteAt bytes 3)).toNat

/-- The payload of a frame (R143). -/
def framePayload (bytes : List Byte) : List Byte := (frameBody bytes).drop 4

/-- The INDUCT payload (R147). -/
def decodeInduct (pl : List Byte) : InductItem where
  category := fieldAt 64 (byteAt pl 0) 0
  tier := fieldAt 8 (byteAt pl 1) 4
  reason := fieldAt 16 (byteAt pl 1) 0
  season := fieldAt 16 (byteAt pl 2) 4
  size := fieldAt 16 (byteAt pl 2) 0
  days := Fin.ofNat 1024 (be16 (byteAt pl 3) (byteAt pl 4)).toNat
  catalogue := be16 (byteAt pl 5) (byteAt pl 6)
  orderRef := be32 (byteAt pl 7) (byteAt pl 8) (byteAt pl 9) (byteAt pl 10)

/-- The command of an MGMT_CMD (R148, R176). PORT_GO has a row for each target and CHUTE_CONTROL one for each action. A
PORT_GO or CHUTE_CONTROL whose target or action byte is absent or names none is the row of its code 0, whose own
checks refuse it BAD_PARAM (log entry 9). -/
def mgmtInstr (tag code : Byte) (params : List Byte) : Instr :=
  match code.toNat with
  | 0x01 => .configure tag params
  | 0x02 => .portConfig tag params
  | 0x03 =>
    match (byteAt params 1).toNat with
    | 1 => .goListen tag params
    | 2 => .goProbe tag params
    | 3 => .goReady tag params
    | 4 => .goPause tag params
    | 5 => .goResume tag params
    | 6 => .goListenToReady tag params
    | _ => .goDetach tag params
  | 0x04 => .writeWeights tag params
  | 0x05 => .writeProfile tag params
  | 0x06 => .writeReasons tag params
  | 0x07 => .writeWindow tag params
  | 0x08 => .writeDefault tag params
  | 0x09 => .chainLoad tag params
  | 0x0A => .chainClear tag params
  | 0x0B =>
    match (byteAt params 1).toNat with
    | 1 => .disable tag params
    | 2 => .closeNow tag params
    | 3 => .advance tag params
    | _ => .enable tag params
  | 0x0C => .abandonTray tag params
  | 0x0D => .readContext tag params
  | 0x0E => .readChute tag params
  | 0x0F => .readTable tag params
  | 0x10 => .readStatus tag params
  | 0x11 => .eventRoute tag params
  | 0x12 => .ackAttention tag params
  | 0x13 => .softReset tag params
  | _ => .badCommand tag code params

/-- The command of a valid station frame (R147). -/
def decodeStation (p : StationPort) (k : InboundKind) (t : Tray) (pl : List Byte) : Option Instr :=
  match k with
  | .announce => some (.announce p (byteAt pl 0) (byteAt pl 1))
  | .obsDefect => some (.obsDefect p t (fieldAt 128 (byteAt pl 0) 0) (fieldAt 4 (byteAt pl 1) 3) (fieldAt 8 (byteAt pl 1) 0))
  | .obsTag => some (.obsTag p t ((byteAt pl 0).getLsbD 1) ((byteAt pl 0).getLsbD 0))
  | .obsWeight => some (.obsWeight p t (be16 (byteAt pl 0) (byteAt pl 1)))
  | .itemDone => some (.itemDone p t)
  | .pauseAck => some (.pauseAck p)
  | .resumeAck => some (.resumeAck p)
  | .idle => some (.idle p)
  | _ => none

/-- The command of a valid sorter frame (R147). -/
def decodeSorter (k : InboundKind) (t : Tray) (pl : List Byte) : Option Instr :=
  let chute : Chute := fieldAt 32 (byteAt pl 0) 0
  match k with
  | .decisionReq => some (.decisionReq t)
  | .divertDone => some (.divertDone t chute)
  | .divertMissed => some (.divertMissed t chute)
  | .toteFull => some (.toteFull chute)
  | .toteInPlace => some (.toteInPlace chute (be16 (byteAt pl 1) (byteAt pl 2)))
  | .chuteJam => some (.chuteJam chute)
  | .chuteClear => some (.chuteClear chute)
  | _ => none

/-- The command of a valid line frame (R147, R148). -/
def decodeLine (k : InboundKind) (t : Tray) (pl : List Byte) : Option Instr :=
  match k with
  | .induct => some (.induct t (decodeInduct pl))
  | .mgmtCmd => some (mgmtInstr (byteAt pl 0) (byteAt pl 1) (pl.drop 2))
  | _ => none

/-- What a received frame is to the engine: the command of a valid frame (R151), and FRAME_REJECTED of any other (R145).
Total on any bytes. -/
def decodeFrame (port : Port) (bytes : List Byte) : Instr :=
  let answer : Option Instr :=
    match frameVerdict port bytes, port.kindOf (byteAt bytes 0) with
    | none, some k =>
      match port with
      | .station p => decodeStation p k (frameTray bytes) (framePayload bytes)
      | .sorter => decodeSorter k (frameTray bytes) (framePayload bytes)
      | .line => decodeLine k (frameTray bytes) (framePayload bytes)
    | _, _ => none
  answer.getD (.frameRejected port bytes)

/-! ### Frames from a run of received symbols (R143) -/

/-- What a link's line coding delivers: a start delimiter, an end delimiter, or a byte. -/
inductive LineSymbol where
  | start
  | stop
  | data (b : Byte)
  deriving DecidableEq, Repr

/-- The frames in a run of symbols, after the bytes of a frame already begun, and the bytes that no end delimiter has closed.
A start delimiter inside a frame ends the earlier frame there (R143). -/
def framesOf : Option (List Byte) → List LineSymbol → List (List Byte) × Option (List Byte)
  | begun, [] => ([], begun)
  | none, .start :: rest => framesOf (some []) rest
  | some bs, .start :: rest => let (fs, e) := framesOf (some []) rest; (bs :: fs, e)
  | none, .stop :: rest => framesOf none rest
  | some bs, .stop :: rest => let (fs, e) := framesOf none rest; (bs :: fs, e)
  | none, .data _ :: rest => framesOf none rest
  | some bs, .data b :: rest => framesOf (some (bs ++ [b])) rest

/-! ### The encoder: the frame that a peer sends for a command -/

/-- The INDUCT payload (R147). -/
def encodeInduct (f : InductItem) : List Byte :=
  [byteOf f.category.val, byteOf (f.tier.val * 16 + f.reason.val), byteOf (f.season.val * 16 + f.size.val)]
    ++ bytes2 f.days.val ++ bytes2 f.catalogue.toNat ++ bytes4 f.orderRef.toNat

/-- The frame of an MGMT_CMD; the tray field of its kind carries 1023 (R143). -/
def mgmtFrame (tag code : Byte) (params : List Byte) : Port × List Byte :=
  (.line, frameBytes InboundKind.mgmtCmd.code noTray (tag :: code :: params))

/-- The port and the frame that bring a command, for the commands that a frame brings (R146 to R148). -/
def encodeFrame : Instr → Option (Port × List Byte)
  | .induct t f => some (.line, frameBytes InboundKind.induct.code t (encodeInduct f))
  | .configure g ps => some (mgmtFrame g 0x01 ps)
  | .portConfig g ps => some (mgmtFrame g 0x02 ps)
  | .goDetach g ps => some (mgmtFrame g 0x03 ps)
  | .goListen g ps => some (mgmtFrame g 0x03 ps)
  | .goProbe g ps => some (mgmtFrame g 0x03 ps)
  | .goReady g ps => some (mgmtFrame g 0x03 ps)
  | .goPause g ps => some (mgmtFrame g 0x03 ps)
  | .goResume g ps => some (mgmtFrame g 0x03 ps)
  | .goListenToReady g ps => some (mgmtFrame g 0x03 ps)
  | .writeWeights g ps => some (mgmtFrame g 0x04 ps)
  | .writeProfile g ps => some (mgmtFrame g 0x05 ps)
  | .writeReasons g ps => some (mgmtFrame g 0x06 ps)
  | .writeWindow g ps => some (mgmtFrame g 0x07 ps)
  | .writeDefault g ps => some (mgmtFrame g 0x08 ps)
  | .tableWrite => none
  | .chainLoad g ps => some (mgmtFrame g 0x09 ps)
  | .chainClear g ps => some (mgmtFrame g 0x0A ps)
  | .enable g ps => some (mgmtFrame g 0x0B ps)
  | .disable g ps => some (mgmtFrame g 0x0B ps)
  | .closeNow g ps => some (mgmtFrame g 0x0B ps)
  | .advance g ps => some (mgmtFrame g 0x0B ps)
  | .abandonTray g ps => some (mgmtFrame g 0x0C ps)
  | .readContext g ps => some (mgmtFrame g 0x0D ps)
  | .readChute g ps => some (mgmtFrame g 0x0E ps)
  | .readTable g ps => some (mgmtFrame g 0x0F ps)
  | .readStatus g ps => some (mgmtFrame g 0x10 ps)
  | .eventRoute g ps => some (mgmtFrame g 0x11 ps)
  | .ackAttention g ps => some (mgmtFrame g 0x12 ps)
  | .softReset g ps => some (mgmtFrame g 0x13 ps)
  | .badCommand g code ps => some (mgmtFrame g code ps)
  | .obsDefect p t code z e =>
    some (.station p, frameBytes InboundKind.obsDefect.code t [byteOf code.val, byteOf (z.val * 8 + e.val)])
  | .obsTag p t present mismatch =>
    some (.station p, frameBytes InboundKind.obsTag.code t [byteOf (present.toNat * 2 + mismatch.toNat)])
  | .obsWeight p t g => some (.station p, frameBytes InboundKind.obsWeight.code t (bytes2 g.toNat))
  | .itemDone p t => some (.station p, frameBytes InboundKind.itemDone.code t [])
  | .announce p cls cap => some (.station p, frameBytes InboundKind.announce.code noTray [cls, cap])
  | .pauseAck p => some (.station p, frameBytes InboundKind.pauseAck.code noTray [])
  | .resumeAck p => some (.station p, frameBytes InboundKind.resumeAck.code noTray [])
  | .idle p => some (.station p, frameBytes InboundKind.idle.code noTray [])
  | .frameRejected p bytes => some (p, bytes)
  | .probeWindowExpiry _ => none
  | .pauseTimeout _ => none
  | .resumeTimeout _ => none
  | .takeDefectRecord _ => none
  | .takeTagRecord _ => none
  | .takeWeightRecord _ => none
  | .takeItemDoneRecord _ => none
  | .gradingStart => none
  | .gradingCompletion => none
  | .decisionReq t => some (.sorter, frameBytes InboundKind.decisionReq.code t [])
  | .divertDone t k => some (.sorter, frameBytes InboundKind.divertDone.code t [byteOf k.val])
  | .divertMissed t k => some (.sorter, frameBytes InboundKind.divertMissed.code t [byteOf k.val])
  | .orderExpiry _ _ => none
  | .toteFull k => some (.sorter, frameBytes InboundKind.toteFull.code noTray [byteOf k.val])
  | .toteInPlace k x => some (.sorter, frameBytes InboundKind.toteInPlace.code noTray (byteOf k.val :: bytes2 x.toNat))
  | .chuteJam k => some (.sorter, frameBytes InboundKind.chuteJam.code noTray [byteOf k.val])
  | .chuteClear k => some (.sorter, frameBytes InboundKind.chuteClear.code noTray [byteOf k.val])
  | .entrySent => none
  | .portFrameSent _ => none
  | .linkUp _ => none
  | .linkDown _ => none
  | .powerOnReset => none

/-! ### The opcode table's bits -/

/-- The command that a word spells by the opcode table's bits. No row of the table gives bits, so no word spells one. -/
def decodeTableWord (_nbits _w : Nat) : Option Instr := none

end Sys2Proof
end

