-- ==== Sys2Proof/Config.lean ====
section
/-! DEFINITION. The fixed sizes and times of the GD48. The part has no variants, so each is a number the manual states.
The manual leaves no result of any command open, so there is no free value here. -/

namespace Sys2Proof.Config

/-- The outbound queue holds up to 64 frames (R162). -/
def outboundCapacity : Nat := 64

/-- An advisory record is admitted only while at least 8 entries are free (R164). -/
def advisoryReserve : Nat := 8

/-- A port's inbound queue holds at most 16 records (R140). -/
def inboundCapacity : Nat := 16

/-- A context's observation list holds at most 12 entries (R14). -/
def observationCapacity : Nat := 12

/-- At most 8 frames wait at a station port (R152). -/
def stationTxCapacity : Nat := 8

/-- At most 64 frames wait at the sorter port (R152). -/
def sorterTxCapacity : Nat := 64

/-- No chute has more than 2 outstanding divert orders (R77). -/
def ordersPerChute : Nat := 2

/-- The probe window, in milliseconds (R126). -/
def probeWindow : Nat := 25

/-- The pause acknowledgement time, in milliseconds (R126). -/
def pauseTimeout : Nat := 500

/-- The resume acknowledgement time, in milliseconds (R126). -/
def resumeTimeout : Nat := 100

/-- The largest lap count (R5). -/
def lapMax : Nat := 15

/-- The largest weight, in grams, of an item (R7, R16). -/
def gramsMax : Nat := 20000

/-- The largest score (R31, R38). -/
def scoreMax : Nat := 4095

/-- The largest dropped count (R165). -/
def droppedMax : Nat := 255

/-- The largest stray count (R123). -/
def strayMax : Nat := 255

end Sys2Proof.Config
end

