-- ==== Sys2Proof/Machine/State.lean ====
section
/-! DEFINITION. The state of the GD48: every record, table, queue, timer, flag and link state the manual gives the part, as
plain data, and the state right after power-on reset. The manual's state name OPEN is spelt `opened` (`open` is a word of
Lean's). -/

namespace Sys2Proof.Machine

/-! ### Item contexts (chapter 1) -/

/-- A set of station ports 0 to 7; port p is bit p, as R148 encodes such a set. -/
abbrev PortSet := BitVec 8

/-- The seven states of a context (1.1). -/
inductive ContextState where
  | free | opened | queued | grading | graded | ordered | reporting
  deriving DecidableEq, Repr

/-- The six grades (00_scope, "Grades"). -/
inductive Grade where
  | a | b | c | d | z | m
  deriving DecidableEq, Repr

/-- The six disposition classes (4.1). -/
inductive DispositionClass where
  | restock | outlet | refurbish | vendorReturn | recycle | manual
  deriving DecidableEq, Repr

/-- The two spreads (4.1). -/
inductive Spread where
  | size | fill
  deriving DecidableEq, Repr

/-- A target (4.1): the blank value is that of a disabled window and of a power-on default (R63, R65). -/
structure Target where
  cls : DispositionClass := .manual
  first : Chute := 31
  width : Nat := 1
  spread : Spread := .fill
  deriving DecidableEq, Repr

/-- A context's copied target: the target and the window that supplied it, none for DEFAULT (R66, R73). -/
structure ChosenTarget where
  target : Target
  window : Option (Fin 8)
  deriving DecidableEq, Repr

/-- An entry of the observation list (1.1). -/
structure Observation where
  code : Fin 128
  zone : Nat
  extent : Nat
  points : Nat
  manual : Bool
  deriving DecidableEq, Repr

/-- The six score parts (R43); reason is signed (R37). -/
structure ScoreParts where
  defect : Nat := 0
  weight : Nat := 0
  age : Nat := 0
  tag : Nat := 0
  reason : Int := 0
  total : Nat := 0
  deriving DecidableEq, Repr

/-- The set of forced causes (2.9), one flag for each. -/
structure Causes where
  noProfile : Bool := false
  manualDefect : Bool := false
  labelMismatch : Bool := false
  missingMandatory : Bool := false
  observationLost : Bool := false
  deriving DecidableEq, Repr

/-- The four outcomes of a context (R3). -/
inductive ItemOutcome where
  | diverted | misdelivered | abandoned | replaced
  deriving DecidableEq, Repr

/-- The chute and tote id a context closes with (R3); tote id 0 where no tote is in use (R93). -/
structure Delivery where
  chute : Chute
  toteId : BitVec 16
  deriving DecidableEq, Repr

/-- A context record (1.1). The default of each field is its at-open value, and 0 for the fields that INDUCT gives
(log entry 5). -/
structure Context where
  state : ContextState := .free
  tray : Tray := 0
  category : Fin 64 := 0
  tier : Fin 8 := 0
  season : Fin 16 := 0
  size : Fin 16 := 0
  reason : Fin 16 := 0
  days : Fin 1024 := 0
  catalogue : Nat := 0
  orderRef : BitVec 32 := 0
  expected : PortSet := 0
  reported : PortSet := 0
  lost : PortSet := 0
  observations : List Observation := []
  overflow : Bool := false
  manualDropped : Bool := false
  measured : Option Nat := none
  tags : Option Bool := none
  mismatch : Bool := false
  late : Bool := false
  laps : Nat := 0
  grade : Option Grade := none
  score : ScoreParts := {}
  causes : Causes := {}
  target : Option ChosenTarget := none
  ageUnknown : Bool := false
  weightUnchecked : Bool := false
  exceptionRoute : Bool := false
  abandonMark : Bool := false
  outcome : Option ItemOutcome := none
  delivery : Option Delivery := none
  stamp : Option (BitVec 32) := none
  deriving DecidableEq, Repr

/-! ### Grading tables and windows (chapters 2 to 4) -/

/-- The four station classes (R125). -/
inductive StationClass where
  | label | vision | scale | bench
  deriving DecidableEq, Repr

/-- The grading in flight: the index of its context (R27) and the detected class that each port held when the grading
started (R39). -/
structure Grading where
  context : ContextIndex
  classes : Vector StationClass 8
  deriving DecidableEq, Repr

/-- An entry of the defect weight table (R48). -/
structure WeightEntry where
  weight : Nat := 0
  manual : Bool := false
  deriving DecidableEq, Repr

/-- An entry of the category profile table (R50); the default is the invalid entry, which holds the zero profile. The
mandatory classes are a set: class c is bit c (R148). -/
structure Profile where
  valid : Bool := false
  defectSet : Fin 16 := 0
  mandatory : BitVec 4 := 0
  tA : Nat := 0
  tB : Nat := 0
  tC : Nat := 0
  tD : Nat := 0
  tolerance : Nat := 0
  allowance : Nat := 0
  rate : Nat := 0
  cap : Nat := 0
  tagsRequired : Bool := false
  tagPoints : Nat := 0
  deriving DecidableEq, Repr

/-- A disposition window (R65); the default is a disabled window with the blank values. A category of none is ANY. -/
structure Window where
  enabled : Bool := false
  category : Option (Fin 64) := none
  tiers : BitVec 8 := 0xFF
  lo : Fin 16 := 0
  hi : Fin 16 := 15
  reasons : BitVec 16 := 0xFFFF
  target : Target := {}
  deriving DecidableEq, Repr

/-! ### Orders, chutes and totes (chapters 5 and 6) -/

/-- An entry of the outstanding order list (R77); the remaining time is in milliseconds. -/
structure DivertOrder where
  tray : Tray
  chute : Chute
  descriptor : DescriptorIndex
  grams : Nat
  context : Option ContextIndex
  remaining : Nat
  deriving DecidableEq, Repr

/-- The four states of a tote descriptor (R103). -/
inductive DescriptorState where
  | free | queued | active | closed
  deriving DecidableEq, Repr

/-- The four close causes of a tote (6.5). -/
inductive CloseCause where
  | count | fullSignal | forced | cleared
  deriving DecidableEq, Repr

/-- A tote descriptor (R103); the defaults are the values when FREE. -/
structure Descriptor where
  state : DescriptorState := .free
  toteId : BitVec 16 := 0
  capacity : Nat := 0
  weightLimit : Nat := 0
  continueFlag : Bool := false
  next : Option DescriptorIndex := none
  committedItems : Nat := 0
  committedGrams : Nat := 0
  reservedItems : Nat := 0
  reservedGrams : Nat := 0
  readId : BitVec 16 := 0
  strays : Nat := 0
  closeCause : Option CloseCause := none
  deriving DecidableEq, Repr

/-- The five chute states (R105). -/
inductive ChuteState where
  | unconfigured | swapping | opened | closing | exhausted
  deriving DecidableEq, Repr

/-- A chute record (R105); the defaults are the reset values. -/
structure ChuteRecord where
  state : ChuteState := .unconfigured
  disabled : Bool := false
  jammed : Bool := false
  pending : Option DescriptorIndex := none
  active : Option DescriptorIndex := none
  chain : List DescriptorIndex := []
  pendingCause : Option CloseCause := none
  deriving DecidableEq, Repr

/-! ### Station ports and links (chapters 7 and 8) -/

/-- The ten station port states (R125). -/
inductive PortState where
  | detached | listening | attached | probing | probed | ready | pausing | paused | resuming | fault
  deriving DecidableEq, Repr

/-- What a station may announce of itself (R125). -/
inductive Capability where
  | basic | extended
  deriving DecidableEq, Repr

/-- Why a port is in FAULT (R138). -/
inductive FaultCause where
  | classMismatch | noResume
  deriving DecidableEq, Repr

/-- What an observation record says (1.7). -/
inductive RecordBody where
  | defect (code : Fin 128) (zone : Fin 4) (extent : Fin 8)
  | tag (present mismatch : Bool)
  | weight (grams : BitVec 16)
  | itemDone
  deriving DecidableEq, Repr

/-- A record of a port's inbound queue (1.7). -/
structure ObsRecord where
  tray : Tray
  body : RecordBody
  deriving DecidableEq, Repr

/-- A station port record (R125); the defaults are the power-on values. The timer is none when stopped, else the
milliseconds left. -/
structure PortRecord where
  state : PortState := .detached
  expectedClass : StationClass := .label
  detectedClass : StationClass := .label
  capability : Capability := .basic
  compound : Bool := false
  faultCause : Option FaultCause := none
  timer : Option Nat := none
  inbound : List ObsRecord := []
  hold : Bool := false
  deriving DecidableEq, Repr

/-- A link is UP or DOWN (R150). -/
inductive LinkState where
  | down | up
  deriving DecidableEq, Repr

/-- The frames a station port sends (R146). -/
inductive StationFrame where
  | probe | pause | resume | hold | release
  deriving DecidableEq, Repr

/-- The answers the sorter port sends (R146). -/
inductive SorterFrame where
  | divertOrder (tray : Tray) (chute : Chute)
  | recircOrder (tray : Tray)
  deriving DecidableEq, Repr

/-! ### Records for the line controller (chapter 9) -/

/-- An item result (R157). -/
structure ItemResult where
  tray : Tray
  orderRef : BitVec 32
  category : Fin 64
  tier : Fin 8
  season : Fin 16
  size : Fin 16
  reason : Fin 16
  outcome : Option ItemOutcome
  grade : Option Grade
  score : ScoreParts
  causes : Causes
  target : Option ChosenTarget
  delivery : Option Delivery
  laps : Nat
  late : Bool
  overflow : Bool
  ageUnknown : Bool
  weightUnchecked : Bool
  exceptionRoute : Bool
  observations : List (Fin 128 × Nat)
  deriving DecidableEq, Repr

/-- A tote record (R158). -/
structure ToteRecord where
  chute : Chute
  toteId : BitVec 16
  items : Nat
  grams : Nat
  residue : Nat
  strays : Nat
  cause : CloseCause
  deriving DecidableEq, Repr

/-- The result codes (R171). -/
inductive ResultCode where
  | ok | busy | badCommand | badParam | refusedState | noSpace | notFound
  deriving DecidableEq, Repr

/-- A management result (R148): tag and command code echoed, result code, payload bytes. -/
structure MgmtResult where
  tag : Byte
  code : Byte
  result : ResultCode
  payload : List Byte
  deriving DecidableEq, Repr

/-- The twelve kinds of advisory event (9.3), in the order of their codes 1 to 12 (R149). -/
inductive EventKind where
  | portEvent | frameRejected | inductRefused | obsDiscarded | queueOverrun | orderExpired
  | impliedMiss | unmatchedReport | strayDivert | untrackedDivert | exceptionUnavailable | chuteEvent
  deriving DecidableEq, Repr

/-- The details of a PORT_EVENT (7.9). -/
inductive PortDetail where
  | attached
  | probed (cls : StationClass) (cap : Capability) (defaulted : Bool)
  | ready
  | paused
  | pauseForced
  | resumed
  | lost
  | faultMismatch (announced : Byte)
  | faultNoResume
  | compoundCancelled
  deriving DecidableEq, Repr

/-- Why an induction is refused (R10). -/
inductive RefuseCause where
  | noTray | trayBusy | tableFull
  deriving DecidableEq, Repr

/-- Why a taken record is discarded (R12). -/
inductive DiscardCause where
  | noContext | late | unexpectedPort | kindNotAllowed
  deriving DecidableEq, Repr

/-- The four kinds of observation record (1.7). -/
inductive RecordKind where
  | defect | tag | weight | itemDone
  deriving DecidableEq, Repr

/-- Which divert report found no order (R92, R95). -/
inductive ReportKind where
  | done | missed
  deriving DecidableEq, Repr

/-- The details of a CHUTE_EVENT (6.6). -/
inductive ChuteDetail where
  | opened
  | toteMismatch (readId : BitVec 16)
  | swapping
  | closing
  | exhausted
  | unconfigured
  | fullIgnored
  | jammed
  | jamCleared
  deriving DecidableEq, Repr

/-- An advisory event: its kind, subject and detail (9.3, R149). -/
inductive Advisory where
  | portEvent (port : StationPort) (detail : PortDetail)
  | frameRejected (port : Port) (cause : RejectCause) (kind : Byte)
  | inductRefused (tray : Tray) (cause : RefuseCause)
  | obsDiscarded (port : StationPort) (tray : Tray) (cause : DiscardCause) (kind : RecordKind)
  | queueOverrun (port : StationPort) (tray : Tray) (kind : RecordKind)
  | orderExpired (tray : Tray) (chute : Chute)
  | impliedMiss (tray : Tray) (chute : Chute)
  | unmatchedReport (tray : Tray) (chute : Chute) (report : ReportKind)
  | strayDivert (tray : Tray) (chute : Chute) (ordered : Option Chute)
  | untrackedDivert (tray : Tray) (chute : Chute)
  | exceptionUnavailable (tray : Tray) (chute : Chute)
  | chuteEvent (chute : Chute) (detail : ChuteDetail)
  deriving DecidableEq, Repr

/-- A frame of the outbound queue (R162). An event carries the dropped count written at its admission (R165). -/
inductive OutFrame where
  | item (r : ItemResult)
  | tote (r : ToteRecord)
  | mgmt (r : MgmtResult)
  | event (a : Advisory) (dropped : Nat)
  deriving DecidableEq, Repr

/-- The three routes (R159). -/
inductive Route where
  | off | frame | frameAndAttention
  deriving DecidableEq, Repr

/-- A tote record that waits for room, with the CLOSED descriptor that holds it (R118, R163). -/
structure WaitingTote where
  descriptor : DescriptorIndex
  record : ToteRecord
  deriving DecidableEq, Repr

/-! ### Management (chapter 10) -/

/-- The phase of the command in progress; in RESULT it holds the built result (R168). -/
inductive Phase where
  | execution
  | result (r : MgmtResult)
  deriving DecidableEq, Repr

/-- The command in progress (R168). -/
structure Command where
  tag : Byte
  code : Byte
  params : List Byte
  phase : Phase
  deriving DecidableEq, Repr

/-- The settings record (R172); the defaults are the power-on values. -/
structure Settings where
  lapLimit : Nat := 3
  exceptionChute : Chute := 31
  orderTimeout : Nat := 4
  defaultWeight : Nat := 600
  holdThreshold : Nat := 12
  basicZone : Nat := 2
  basicExtent : Nat := 2
  lock : Bool := false
  deriving DecidableEq, Repr

/-! ### The state -/

/-- The state of the GD48 and, in `pending`, the commands that wait to be taken, first in first out. -/
structure State where
  contexts : Vector Context 256
  trayMap : Vector (Option ContextIndex) 1024
  gradingQueue : List ContextIndex
  stampCounter : BitVec 32
  inFlight : Option Grading
  weights : Vector (Vector WeightEntry 128) 16
  profiles : Vector Profile 64
  reasons : Vector (BitVec 8) 16
  windows : Vector (Vector Window 8) 6
  defaults : Vector Target 6
  orders : List DivertOrder
  chutes : Vector ChuteRecord 32
  descriptors : Vector Descriptor 128
  waitingTotes : List WaitingTote
  ports : Vector PortRecord 8
  stationLinks : Vector LinkState 8
  lineLink : LinkState
  sorterLink : LinkState
  stationTx : Vector (List StationFrame) 8
  sorterTx : List SorterFrame
  lineFinishing : Option OutFrame
  outbound : List OutFrame
  routes : Vector Route 12
  attention : Bool
  dropped : Nat
  settings : Settings
  command : Option Command
  pending : List Instr
  deriving DecidableEq, Repr

/-- The state right after power-on reset: every piece at the value its owning chapter gives (R26, R47, R53, R75, R79, R124,
R142, R150, R167, R168, R172), and no command waiting. -/
def State.reset : State where
  contexts := Vector.replicate 256 {}
  trayMap := Vector.replicate 1024 none
  gradingQueue := []
  stampCounter := 0
  inFlight := none
  weights := Vector.replicate 16 (Vector.replicate 128 {})
  profiles := Vector.replicate 64 {}
  reasons := Vector.replicate 16 0
  windows := Vector.replicate 6 (Vector.replicate 8 {})
  defaults := Vector.replicate 6 {}
  orders := []
  chutes := Vector.replicate 32 {}
  descriptors := Vector.replicate 128 {}
  waitingTotes := []
  ports := Vector.replicate 8 {}
  stationLinks := Vector.replicate 8 .down
  lineLink := .down
  sorterLink := .down
  stationTx := Vector.replicate 8 []
  sorterTx := []
  lineFinishing := none
  outbound := []
  routes := Vector.replicate 12 .frame
  attention := false
  dropped := 0
  settings := {}
  command := none
  pending := []

/-- The faults of the machine. There is none: the manual gives every command an effect, and no arrival stops the part. -/
inductive Fault where
  deriving DecidableEq, Repr

/-- The refusals of the model. -/
inductive Refusal where
  /-- Raised by an arm of exec whose command has no meaning yet; safe, since the model then claims nothing. No arm of this
  model raises it. -/
  | notModelled (mnemonic : String)
  deriving DecidableEq, Repr

end Sys2Proof.Machine
end

