-- ==== Sys2Proof/Machine/Ops.lean ====
section
/-! DEFINITION. The named operations of the blocks, which the commands' meanings share: reading and changing the records,
offering records to the report unit, the life of a context, the life of a tote, and the station and sorter transmitters. -/

namespace Sys2Proof.Machine

/-! ### Records by index -/

/-- A table written entry by entry. -/
def vecOf {α : Type} {n : Nat} (f : Fin n → α) : Vector α n := ⟨⟨(List.finRange n).map f⟩, by simp⟩

/-- A table mapped entry by entry. -/
def vecMap {α β : Type} {n : Nat} (f : α → β) (v : Vector α n) : Vector β n := ⟨⟨v.toList.map f⟩, by simp⟩

/-- The context in slot i. -/
def State.context (s : State) (i : ContextIndex) : Context := s.contexts[i]

/-- The record of station port p. -/
def State.port (s : State) (p : StationPort) : PortRecord := s.ports[p]

/-- The record of chute k. -/
def State.chute (s : State) (k : Chute) : ChuteRecord := s.chutes[k]

/-- The tote descriptor d. -/
def State.descriptor (s : State) (d : DescriptorIndex) : Descriptor := s.descriptors[d]

/-- The link of a port (R150). -/
def State.link (s : State) : Port → LinkState
  | .station p => s.stationLinks[p]
  | .line => s.lineLink
  | .sorter => s.sorterLink

/-- Change one context. -/
def State.modContext (s : State) (i : ContextIndex) (f : Context → Context) : State :=
  { s with contexts := s.contexts.set i (f (s.context i)) }

/-- Change one port record. -/
def State.modPort (s : State) (p : StationPort) (f : PortRecord → PortRecord) : State :=
  { s with ports := s.ports.set p (f (s.port p)) }

/-- Change one chute record. -/
def State.modChute (s : State) (k : Chute) (f : ChuteRecord → ChuteRecord) : State :=
  { s with chutes := s.chutes.set k (f (s.chute k)) }

/-- Change one descriptor. -/
def State.modDescriptor (s : State) (d : DescriptorIndex) (f : Descriptor → Descriptor) : State :=
  { s with descriptors := s.descriptors.set d (f (s.descriptor d)) }

/-- Write one tray map entry (R1). -/
def State.setMap (s : State) (t : Tray) (e : Option ContextIndex) : State := { s with trayMap := s.trayMap.set t e }

/-- The context that the tray map names for tray t (R1). -/
def State.lookup (s : State) (t : Tray) : Option ContextIndex := s.trayMap[t]

/-- All context indices, lowest first. -/
def allContexts : List ContextIndex := List.finRange 256

/-- All descriptor indices, lowest first. -/
def allDescriptors : List DescriptorIndex := List.finRange 128

/-! ### Sets of ports -/

/-- Membership in a set of ports. -/
def portIn (p : StationPort) (ps : PortSet) : Bool := ps.getLsbD p.val

/-- A set of ports with p. -/
def portInsert (p : StationPort) (ps : PortSet) : PortSet := ps ||| (1#8 <<< p.val)

/-- A set of ports without p. -/
def portErase (p : StationPort) (ps : PortSet) : PortSet := ps &&& ~~~(1#8 <<< p.val)

/-- Every port of the first set is in the second. -/
def portSubset (ps qs : PortSet) : Bool := ps &&& ~~~qs == 0

/-- The ports whose state is READY (R11). -/
def State.readyPorts (s : State) : PortSet :=
  (List.finRange 8).foldl (fun ps p => if (s.port p).state = .ready then portInsert p ps else ps) 0

/-! ### The report unit (chapter 9) -/

/-- The kind of an advisory event. -/
def Advisory.kind : Advisory → EventKind
  | .portEvent _ _ => .portEvent
  | .frameRejected _ _ _ => .frameRejected
  | .inductRefused _ _ => .inductRefused
  | .obsDiscarded _ _ _ _ => .obsDiscarded
  | .queueOverrun _ _ _ => .queueOverrun
  | .orderExpired _ _ => .orderExpired
  | .impliedMiss _ _ => .impliedMiss
  | .unmatchedReport _ _ _ => .unmatchedReport
  | .strayDivert _ _ _ => .strayDivert
  | .untrackedDivert _ _ => .untrackedDivert
  | .exceptionUnavailable _ _ => .exceptionUnavailable
  | .chuteEvent _ _ => .chuteEvent

/-- The place of a kind in the route table: its code of R149, less 1. -/
def EventKind.index : EventKind → Fin 12
  | .portEvent => 0 | .frameRejected => 1 | .inductRefused => 2 | .obsDiscarded => 3
  | .queueOverrun => 4 | .orderExpired => 5 | .impliedMiss => 6 | .unmatchedReport => 7
  | .strayDivert => 8 | .untrackedDivert => 9 | .exceptionUnavailable => 10 | .chuteEvent => 11

/-- The route of a kind (R159). -/
def State.route (s : State) (k : EventKind) : Route := s.routes[k.index]

/-- The queue holds fewer than 64 entries, so a must-deliver record enters it (R163). -/
def State.hasRoom (s : State) : Bool := s.outbound.length < Config.outboundCapacity

/-- At least 8 entries are free, so an advisory record enters (R164). -/
def State.hasAdvisoryRoom (s : State) : Bool :=
  s.outbound.length + Config.advisoryReserve ≤ Config.outboundCapacity

/-- A frame joins the tail of the outbound queue (R162). -/
def State.pushOut (s : State) (f : OutFrame) : State := { s with outbound := s.outbound ++ [f] }

/-- An advisory record is dropped and counted, saturating at 255 (R165). -/
def State.dropAdvisory (s : State) : State := { s with dropped := min Config.droppedMax (s.dropped + 1) }

/-- An EVENT is offered for admission: admitted with the dropped count, which returns to 0, or dropped (R164, R165). -/
def State.admitEvent (s : State) (a : Advisory) : State :=
  if s.hasAdvisoryRoom then { s.pushOut (.event a s.dropped) with dropped := 0 } else s.dropAdvisory

/-- A block offers an advisory event (R159). -/
def State.offerEvent (s : State) (a : Advisory) : State :=
  match s.route a.kind with
  | .off => s
  | .frame => s.admitEvent a
  | .frameAndAttention => { s with attention := true }.admitEvent a

/-- The BUSY result of a command that was not performed: an advisory record, which neither carries nor clears the dropped
count (R165, R169). -/
def State.offerBusy (s : State) (tag code : Byte) : State :=
  if s.hasAdvisoryRoom then s.pushOut (.mgmt { tag, code, result := .busy, payload := [] }) else s.dropAdvisory

/-- The item result of a context (R157). -/
def Context.itemResult (c : Context) : ItemResult where
  tray := c.tray
  orderRef := c.orderRef
  category := c.category
  tier := c.tier
  season := c.season
  size := c.size
  reason := c.reason
  outcome := c.outcome
  grade := c.grade
  score := c.score
  causes := c.causes
  target := c.target
  delivery := c.delivery
  laps := c.laps
  late := c.late
  overflow := c.overflow
  ageUnknown := c.ageUnknown
  weightUnchecked := c.weightUnchecked
  exceptionRoute := c.exceptionRoute
  observations := c.observations.map (fun o => (o.code, o.points))

/-- A context's item result enters the queue and its slot becomes FREE (R3, R163). -/
def State.admitItem (s : State) (i : ContextIndex) : State :=
  (s.pushOut (.item (s.context i).itemResult)).modContext i (fun _ => {})

/-- A closed context's item result is offered: it enters, or the context stays in REPORTING (R163). -/
def State.offerItem (s : State) (i : ContextIndex) : State := if s.hasRoom then s.admitItem i else s

/-- A tote record enters the queue and its descriptor becomes FREE (R118, R163). -/
def State.admitTote (s : State) (w : WaitingTote) : State :=
  (s.pushOut (.tote w.record)).modDescriptor w.descriptor (fun _ => {})

/-- A tote record is offered: it enters, or waits with its CLOSED descriptor (R118, R163). -/
def State.offerTote (s : State) (w : WaitingTote) : State :=
  if s.hasRoom then s.admitTote w else { s with waitingTotes := s.waitingTotes ++ [w] }

/-- The age of a context's report stamp: how far the counter has moved since, modulo 2^32 (R3). -/
def State.stampAge (s : State) (i : ContextIndex) : Nat := (s.stampCounter - (s.context i).stamp.getD 0).toNat

/-- Of a list of contexts, the one whose stamp is the oldest (R3, R164). -/
def State.oldestOf (s : State) : List ContextIndex → Option ContextIndex
  | [] => none
  | i :: rest =>
    match s.oldestOf rest with
    | none => some i
    | some j => if s.stampAge j ≤ s.stampAge i then some i else some j

/-- The waiting item result that is admitted first: the context in REPORTING with the lowest stamp by age (R164). -/
def State.nextItem (s : State) : Option ContextIndex :=
  s.oldestOf (allContexts.filter (fun i => (s.context i).state = .reporting))

/-- The waiting tote record that is admitted first: of the lowest chute, the one whose tote closed first (R164). -/
def State.nextTote (s : State) : Option WaitingTote :=
  (List.finRange 32).findSome? (fun k => s.waitingTotes.find? (fun w => w.record.chute = k))

/-- The management result that waits, if the engine is in its result phase (R164, R171). -/
def State.waitingResult (s : State) : Option MgmtResult :=
  match s.command with
  | some { phase := .result r, .. } => some r
  | _ => none

/-- A leave of the queue admits exactly one waiting record, in the order of R164, or none where none waits. -/
def State.admitWaiting (s : State) : State :=
  match s.waitingResult with
  | some r => { s.pushOut (.mgmt r) with command := none }
  | none =>
    match s.nextTote with
    | some w => { s.admitTote w with waitingTotes := s.waitingTotes.erase w }
    | none =>
      match s.nextItem with
      | some i => s.admitItem i
      | none => s

/-! ### The management engine (10.1, 10.2) -/

/-- What a command's execution ends with: a result code with its payload, or a wait in the execution phase (R170). -/
inductive Reply where
  | done (r : ResultCode) (payload : List Byte)
  | wait
  deriving DecidableEq, Repr

/-- The end of an execution phase: the result is built and offered as a must-deliver record; it enters and the engine holds
no command, or it waits in the engine (R171). A result other than OK carries no payload. -/
def State.finish (s : State) (tag code : Byte) (params : List Byte) (r : ResultCode) (payload : List Byte) : State :=
  let res : MgmtResult := { tag, code, result := r, payload := if r = .ok then payload else [] }
  if s.hasRoom then { s.pushOut (.mgmt res) with command := none }
  else { s with command := some { tag, code, params, phase := .result res } }

/-- An MGMT_CMD is taken: answered BUSY while another command is in progress (R169), else executed by `act` on the state
before it (R170). -/
def State.runCommand (s : State) (tag code : Byte) (params : List Byte) (act : State → State × Reply) : State :=
  match s.command with
  | some _ => s.offerBusy tag code
  | none =>
    match act s with
    | (t, .done r payload) => t.finish tag code params r payload
    | (t, .wait) => { t with command := some { tag, code, params, phase := .execution } }

/-- A refusal of a command: no state changes (R170). -/
def refuse (s : State) (r : ResultCode) : State × Reply := (s, .done r [])

/-! ### Grading start and seal (R2, R20, R27) -/

/-- The classes that the ports now hold, as a grading reads them at its start (R39). -/
def State.detectedClasses (s : State) : Vector StationClass 8 := vecMap PortRecord.detectedClass s.ports

/-- The grading unit, if idle, takes the head of a non-empty grading queue and its context becomes GRADING (R4, R27). -/
def State.startGrading (s : State) : State :=
  match s.inFlight, s.gradingQueue with
  | none, i :: rest =>
    { s with gradingQueue := rest, inFlight := some { context := i, classes := s.detectedClasses } }.modContext i
      (fun c => { c with state := .grading })
  | _, _ => s

/-- Sealed contexts join the tail of the grading queue; where the queue was empty and the unit is idle, a grading starts in
the same step (R2, R27). -/
def State.enqueue (s : State) (sealed : List ContextIndex) : State :=
  let t := { s with gradingQueue := s.gradingQueue ++ sealed }
  if s.gradingQueue.isEmpty then t.startGrading else t

/-- An OPEN context seals: it becomes QUEUED at the tail of the grading queue (R20). A context that is not OPEN does not. -/
def State.seal (s : State) (i : ContextIndex) : State :=
  if (s.context i).state = .opened then (s.modContext i (fun c => { c with state := .queued })).enqueue [i] else s

/-! ### Withdrawal (R21) -/

/-- A withdrawal of port p removes it from the expected ports of this context. -/
def Context.losesPort (p : StationPort) (c : Context) : Bool :=
  c.state = .opened && portIn p c.expected && !portIn p c.reported

/-- A withdrawal of port p leaves this context with every expected port reported. -/
def Context.sealsWithout (p : StationPort) (c : Context) : Bool :=
  c.losesPort p && portSubset (portErase p c.expected) c.reported

/-- A context after the withdrawal of port p. -/
def Context.withdrawn (p : StationPort) (c : Context) : Context :=
  if c.losesPort p then
    { c with expected := portErase p c.expected, state := if c.sealsWithout p then .queued else .opened }
  else c

/-- The withdrawal of port p: it leaves the expected ports of every OPEN context that has not its report; the contexts so
completed seal in ascending order of index (R21). -/
def State.withdraw (s : State) (p : StationPort) : State :=
  let sealed := allContexts.filter (fun i => (s.context i).sealsWithout p)
  { s with contexts := vecMap (Context.withdrawn p) s.contexts }.enqueue sealed

/-! ### Closing and changing contexts (R3 to R5) -/

/-- A live context closes with an outcome: it leaves the grading queue and the tray map, takes a report stamp, enters
REPORTING and its item result is offered (R3). -/
def State.closeContext (s : State) (i : ContextIndex) (o : ItemOutcome) (d : Option Delivery) : State :=
  let c := s.context i
  let s1 := if c.state = .queued then { s with gradingQueue := s.gradingQueue.erase i } else s
  let s2 := (s1.setMap c.tray none).modContext i
    (fun c => { c with state := .reporting, outcome := some o, delivery := d, stamp := some s.stampCounter })
  { s2 with stampCounter := s.stampCounter + 1 }.offerItem i

/-- The request to close a context DIVERTED, made of an ORDERED context (R4). -/
def State.closeDiverted (s : State) (i : ContextIndex) (d : Delivery) : State :=
  if (s.context i).state = .ordered then s.closeContext i .diverted (some d) else s

/-- The request to close a context MISDELIVERED, made of an ORDERED, GRADED or QUEUED context (R4). -/
def State.closeMisdelivered (s : State) (i : ContextIndex) (d : Delivery) : State :=
  match (s.context i).state with
  | .ordered | .graded | .queued => s.closeContext i .misdelivered (some d)
  | _ => s

/-- The request to return an ORDERED context to GRADED (R4). -/
def State.unorder (s : State) (i : ContextIndex) : State :=
  s.modContext i (fun c => if c.state = .ordered then { c with state := .graded } else c)

/-- The order placed request: a GRADED context becomes ORDERED (R4). -/
def State.placeOrder (s : State) (i : ContextIndex) : State :=
  s.modContext i (fun c => if c.state = .graded then { c with state := .ordered } else c)

/-- A lap is counted, saturating at 15 (R5). -/
def State.countLap (s : State) (i : ContextIndex) : State :=
  s.modContext i (fun c => { c with laps := min Config.lapMax (c.laps + 1) })

/-- An operation on the context that an entry names, if it names one. -/
def State.forContext (s : State) (c : Option ContextIndex) (f : State → ContextIndex → State) : State :=
  match c with
  | some i => f s i
  | none => s

/-! ### Totes (chapter 6) -/

/-- Offer a CHUTE_EVENT (6.6). -/
def State.chuteEvent (s : State) (k : Chute) (d : ChuteDetail) : State := s.offerEvent (.chuteEvent k d)

/-- The outstanding orders for chute k (R77). -/
def State.ordersAt (s : State) (k : Chute) : Nat := s.orders.countP (fun o => o.chute = k)

/-- A chute enters SWAPPING: the head of its non-empty chain becomes pending and the event is offered (R108). -/
def State.enterSwapping (s : State) (k : Chute) : State :=
  match (s.chute k).chain with
  | [] => s
  | d :: rest =>
    (s.modChute k (fun c => { c with
      state := .swapping, pending := some d, active := none, pendingCause := none, chain := rest })).chuteEvent k .swapping

/-- The record of the tote of a descriptor closing at chute k (R158). -/
def Descriptor.toteRecord (D : Descriptor) (k : Chute) (cause : CloseCause) : ToteRecord where
  chute := k
  toteId := D.readId
  items := D.committedItems
  grams := D.committedGrams
  residue := D.capacity - D.committedItems
  strays := D.strays
  cause := cause

/-- A descriptor becomes CLOSED with its cause and its record is offered (step 1 of R117; R120). -/
def State.closeDescriptor (s : State) (k : Chute) (d : DescriptorIndex) (cause : CloseCause) : State :=
  (s.modDescriptor d (fun D => { D with state := .closed, closeCause := some cause })).offerTote
    { descriptor := d, record := (s.descriptor d).toteRecord k cause }

/-- The tote of chute k closes, and the chute takes its next state from the closed descriptor's continue flag and the chain
(R117). -/
def State.closeTote (s : State) (k : Chute) (cause : CloseCause) : State :=
  match (s.chute k).active with
  | none => s
  | some d =>
    let s1 := (s.closeDescriptor k d cause).modChute k (fun c => { c with active := none, pendingCause := none })
    if (s.descriptor d).continueFlag && !(s.chute k).chain.isEmpty then s1.enterSwapping k
    else (s1.modChute k (fun c => { c with state := .exhausted })).chuteEvent k .exhausted

/-- The completion test of a CLOSING chute: with no order outstanding its tote closes with the pending cause (R116). -/
def State.completeClosing (s : State) (k : Chute) : State :=
  match (s.chute k).state, (s.chute k).pendingCause with
  | .closing, some cause => if s.ordersAt k = 0 then s.closeTote k cause else s
  | _, _ => s

/-- The COUNT test after a commit on descriptor d of chute k (R113). -/
def State.countTest (s : State) (k : Chute) (d : DescriptorIndex) : State :=
  if (s.descriptor d).committedItems = (s.descriptor d).capacity then
    match (s.chute k).state, (s.chute k).pendingCause with
    | .opened, _ => s.closeTote k .count
    | .closing, some cause => s.closeTote k cause
    | _, _ => s
  else s

/-- The reservation test of R110: the chute is OPEN and its tote has room for one item of g grams. -/
def State.grants (s : State) (k : Chute) (g : Nat) : Option DescriptorIndex :=
  match (s.chute k).state, (s.chute k).active with
  | .opened, some d =>
    let D := s.descriptor d
    if D.committedItems + D.reservedItems < D.capacity
        && D.committedGrams + D.reservedGrams + g ≤ D.weightLimit then some d else none
  | _, _ => none

/-- A granted reservation of one item of g grams (R110). -/
def Descriptor.reserve (D : Descriptor) (g : Nat) : Descriptor :=
  { D with reservedItems := D.reservedItems + 1, reservedGrams := D.reservedGrams + g }

/-- A released reservation of one item of g grams (R112). -/
def Descriptor.unreserve (D : Descriptor) (g : Nat) : Descriptor :=
  { D with reservedItems := D.reservedItems - 1, reservedGrams := D.reservedGrams - g }

/-- A committed reservation of one item of g grams (R111). -/
def Descriptor.commit (D : Descriptor) (g : Nat) : Descriptor :=
  { D.unreserve g with committedItems := D.committedItems + 1, committedGrams := D.committedGrams + g }

/-- An order is settled by a release: the entry is removed, its reservation released, and the completion test made (R78,
R112, R116). -/
def State.settleRelease (s : State) (o : DivertOrder) : State :=
  ({ s with orders := s.orders.erase o }.modDescriptor o.descriptor (fun D => D.unreserve o.grams)).completeClosing o.chute

/-- An order is settled by a commit: the entry is removed, its reservation committed, then the COUNT test and the completion
test are made (R78, R111, R113, R116). -/
def State.settleCommit (s : State) (o : DivertOrder) : State :=
  (({ s with orders := s.orders.erase o }.modDescriptor o.descriptor (fun D => D.commit o.grams)).countTest
    o.chute o.descriptor).completeClosing o.chute

/-- A stray at chute k: the tote in place counts it, saturating at 255, and gives its read tote id; with no tote in use
nothing changes and the id is 0 (R93, R123). -/
def State.stray (s : State) (k : Chute) : State × BitVec 16 :=
  match (s.chute k).active with
  | some d =>
    (s.modDescriptor d (fun D => { D with strays := min Config.strayMax (D.strays + 1) }), (s.descriptor d).readId)
  | none => (s, 0)

/-! ### Transmitters of the station ports and the sorter port (R152) -/

/-- A frame is produced at station port p: it waits to be sent, or is not sent while the link is DOWN or 8 frames wait. -/
def State.sendStation (s : State) (p : StationPort) (f : StationFrame) : State :=
  if s.stationLinks[p] = .up && s.stationTx[p].length < Config.stationTxCapacity then
    { s with stationTx := s.stationTx.set p (s.stationTx[p] ++ [f]) }
  else s

/-- An answer is produced at the sorter port: it waits to be sent, or is lost while the link is DOWN or 64 frames wait. -/
def State.sendSorter (s : State) (f : SorterFrame) : State :=
  if s.sorterLink = .up && s.sorterTx.length < Config.sorterTxCapacity then { s with sorterTx := s.sorterTx ++ [f] }
  else s

/-- The frame that station port p is sending, if any: the one that has waited longest, while the link is UP (R152). -/
def State.stationSending (s : State) (p : StationPort) : List StationFrame :=
  if s.stationLinks[p] = .up then s.stationTx[p].take 1 else []

/-- The frames waiting at station port p are discarded; the one being sent is sent whole (R152, R155). -/
def State.dropStationTx (s : State) (p : StationPort) : State :=
  { s with stationTx := s.stationTx.set p (s.stationSending p) }

/-! ### Frames of the sorter -/

/-- A frame of the sorter is taken while the sorter link is UP; while it is DOWN none arrives and nothing changes (R101,
R150). -/
def State.sorterFrame (s taken : State) : State := if s.sorterLink = .up then taken else s

/-! ### Time -/

/-- The timer of a port has run out in the state that waits on it: the row that takes the running out (R126). -/
def PortRecord.due (P : PortRecord) (p : StationPort) : Option Instr :=
  match P.state, P.timer with
  | .probing, some 0 => some (.probeWindowExpiry p)
  | .pausing, some 0 => some (.pauseTimeout p)
  | .resuming, some 0 => some (.resumeTimeout p)
  | _, _ => none

/-- A running out that stands to be taken: of the lowest port whose timer has reached 0, else of the first order whose remaining
time has (R96, R126). Expiries have no order between them (log entry 8). -/
def State.due (s : State) : Option Instr :=
  match (List.finRange 8).findSome? (fun p => (s.port p).due p) with
  | some c => some c
  | none => (s.orders.find? (fun o => o.remaining = 0)).map (fun o => .orderExpiry o.tray o.chute)

/-- One millisecond passes: every running port timer and every order's remaining time falls by 1 (R96, R126). A frame of at
most 66 bytes takes less than a millisecond at 10 Mbit/s (8.6), so an entry left on the wire by a soft reset has been completed
(R155). -/
def State.tick (s : State) : State :=
  { s with
    ports := vecMap (fun P => { P with timer := P.timer.map Nat.pred }) s.ports
    orders := s.orders.map (fun o => { o with remaining := o.remaining - 1 })
    lineFinishing := none }

/-! ### The attention pin -/

/-- ATTN_N is driven low while the attention state is set (R156, R161). -/
def State.attnDrivenLow (s : State) : Bool := s.attention

end Sys2Proof.Machine
end

