-- ==== Sys2Proof/Machine/Operands.lean ====
section
/-! DEFINITION. The operand forms: the parameters of each management command with the checks of its owning rule (none is
BAD_PARAM), the wire codes of enumerations (R147, R176), and the chutes that a target offers (R67, R68). -/

namespace Sys2Proof.Machine

/-! ### Codes (R147, R176) -/

/-- A flag byte: 0 or 1, any other value fails (R170). -/
def flagOf (b : Byte) : Option Bool := if b = 0 then some false else if b = 1 then some true else none

/-- A flag as a byte (R148). -/
def flagByte (b : Bool) : Byte := if b then 1 else 0

/-- A byte as an index below n, if it is one. -/
def indexOf (n : Nat) (b : Byte) : Option (Fin n) := if h : b.toNat < n then some ⟨b.toNat, h⟩ else none

/-- Clamped to lo to hi (00_scope, "Arithmetic"). -/
def clampTo (lo hi x : Nat) : Nat := min hi (max lo x)

/-- The station class of a code (R147). -/
def classOf (b : Byte) : Option StationClass :=
  match b.toNat with
  | 0 => some .label | 1 => some .vision | 2 => some .scale | 3 => some .bench | _ => none

/-- The code of a station class (R147). -/
def StationClass.code : StationClass → Nat
  | .label => 0 | .vision => 1 | .scale => 2 | .bench => 3

/-- The code of a capability (R147). -/
def Capability.code : Capability → Nat
  | .basic => 0 | .extended => 1

/-- The code of an outcome (R147). -/
def ItemOutcome.code : ItemOutcome → Nat
  | .diverted => 0 | .misdelivered => 1 | .abandoned => 2 | .replaced => 3

/-- The place of a grade in the matcher's tables: its code of R147, less 1. -/
def Grade.index : Grade → Fin 6
  | .a => 0 | .b => 1 | .c => 2 | .d => 3 | .z => 4 | .m => 5

/-- The code of a grade, 0 for an absent one (R147). -/
def gradeCode : Option Grade → Nat
  | none => 0
  | some g => g.index.val + 1

/-- The grade of a code 1 to 6 (R147, R177). -/
def gradeOf (b : Byte) : Option Grade :=
  match b.toNat with
  | 1 => some .a | 2 => some .b | 3 => some .c | 4 => some .d | 5 => some .z | 6 => some .m | _ => none

/-- The disposition class of a code (R147). -/
def dispositionOf (b : Byte) : Option DispositionClass :=
  match b.toNat with
  | 0 => some .restock | 1 => some .outlet | 2 => some .refurbish | 3 => some .vendorReturn | 4 => some .recycle
  | 5 => some .manual | _ => none

/-- The code of a disposition class (R147). -/
def DispositionClass.code : DispositionClass → Nat
  | .restock => 0 | .outlet => 1 | .refurbish => 2 | .vendorReturn => 3 | .recycle => 4 | .manual => 5

/-- The spread of a code (R147). -/
def spreadOf (b : Byte) : Option Spread :=
  match b.toNat with
  | 0 => some .size | 1 => some .fill | _ => none

/-- The code of a spread (R147). -/
def Spread.code : Spread → Nat
  | .size => 0 | .fill => 1

/-- The code of a window index, 8 for DEFAULT (R147). -/
def windowCode : Option (Fin 8) → Nat
  | some i => i.val
  | none => 8

/-- The code of a close cause (R147). -/
def CloseCause.code : CloseCause → Nat
  | .count => 1 | .fullSignal => 2 | .forced => 3 | .cleared => 4

/-- The code of a result (R147). -/
def ResultCode.code : ResultCode → Nat
  | .ok => 0 | .busy => 1 | .badCommand => 2 | .badParam => 3 | .refusedState => 4 | .noSpace => 5 | .notFound => 6

/-- The code of a port state (R176). -/
def PortState.code : PortState → Nat
  | .detached => 0 | .listening => 1 | .attached => 2 | .probing => 3 | .probed => 4 | .ready => 5 | .pausing => 6
  | .paused => 7 | .resuming => 8 | .fault => 9

/-- The code of a chute state (R176). -/
def ChuteState.code : ChuteState → Nat
  | .unconfigured => 0 | .swapping => 1 | .opened => 2 | .closing => 3 | .exhausted => 4

/-- The code of a live context's state in READ_CONTEXT (R178). -/
def ContextState.code : ContextState → Nat
  | .free => 0 | .opened => 1 | .queued => 2 | .grading => 3 | .graded => 4 | .ordered => 5 | .reporting => 6

/-- The code of a link state (R181). -/
def LinkState.code : LinkState → Nat
  | .down => 0 | .up => 1

/-- The code of a route (R160). -/
def Route.code : Route → Nat
  | .off => 0 | .frame => 1 | .frameAndAttention => 2

/-- The route of a code (R160). -/
def routeOf (b : Byte) : Option Route :=
  match b.toNat with
  | 0 => some .off | 1 => some .frame | 2 => some .frameAndAttention | _ => none

/-- The code of a record's kind (R146). -/
def RecordKind.code : RecordKind → Byte
  | .defect => 0x21 | .tag => 0x22 | .weight => 0x23 | .itemDone => 0x24

/-- The kind of a record. -/
def RecordBody.kind : RecordBody → RecordKind
  | .defect _ _ _ => .defect
  | .tag _ _ => .tag
  | .weight _ => .weight
  | .itemDone => .itemDone

/-- A descriptor index as a byte, 255 for none (R148). -/
def descriptorByte : Option DescriptorIndex → Byte
  | some d => byteOf d.val
  | none => 255

/-! ### CONFIGURE (R173) -/

/-- The nine parameter bytes of CONFIGURE: the exception chute and the lock flag are checked, the rest clamped. -/
def parseConfigure : List Byte → Option Settings
  | [lap, chute, time, wHi, wLo, hold, zone, extent, lock] => do
    let k ← indexOf 32 chute
    let l ← flagOf lock
    pure { lapLimit := clampTo 1 7 lap.toNat, exceptionChute := k, orderTimeout := clampTo 1 15 time.toNat,
           defaultWeight := clampTo 1 Config.gramsMax (be16 wHi wLo).toNat, holdThreshold := clampTo 4 15 hold.toNat,
           basicZone := clampTo 0 2 zone.toNat, basicExtent := clampTo 1 4 extent.toNat, lock := l }
  | _ => none

/-- The settings record in CONFIGURE order (R173, R181). -/
def Settings.bytes (g : Settings) : List Byte :=
  [byteOf g.lapLimit, byteOf g.exceptionChute.val, byteOf g.orderTimeout] ++ bytes2 g.defaultWeight
    ++ [byteOf g.holdThreshold, byteOf g.basicZone, byteOf g.basicExtent, flagByte g.lock]

/-! ### Port, chute and tray commands (R176) -/

/-- PORT_CONFIG: port and class (R127). -/
def parsePortConfig : List Byte → Option (StationPort × StationClass)
  | [p, c] => do
    let p ← indexOf 8 p
    let c ← classOf c
    pure (p, c)
  | _ => none

/-- PORT_GO of the row whose target code is `target`: the port (R128). -/
def parseGo (target : Nat) : List Byte → Option StationPort
  | [p, t] => if t.toNat = target then indexOf 8 p else none
  | _ => none

/-- CHUTE_CONTROL of the row whose action code is `action`: the chute (R121). -/
def parseControl (action : Nat) : List Byte → Option Chute
  | [k, a] => if a.toNat = action then indexOf 32 k else none
  | _ => none

/-- A tote entry of a CHAIN_LOAD (R106). -/
structure ToteEntry where
  toteId : BitVec 16
  capacity : Nat
  weightLimit : Nat
  continueFlag : Bool
  deriving DecidableEq, Repr

/-- The tote entries of a CHAIN_LOAD, six bytes each, every one checked (R106). -/
def parseEntries : List Byte → Option (List ToteEntry)
  | [] => some []
  | idHi :: idLo :: cap :: limHi :: limLo :: cont :: rest => do
    let c ← flagOf cont
    let more ← parseEntries rest
    let limit := (be16 limHi limLo).toNat
    if 1 ≤ cap.toNat ∧ cap.toNat ≤ 60 ∧ 100 ≤ limit ∧ limit ≤ 30000 then
      pure ({ toteId := be16 idHi idLo, capacity := cap.toNat, weightLimit := limit, continueFlag := c } :: more)
    else none
  | _ => none

/-- CHAIN_LOAD: chute, entry count and the entries (R106). -/
def parseChainLoad : List Byte → Option (Chute × List ToteEntry)
  | k :: count :: rest => do
    let k ← indexOf 32 k
    let es ← parseEntries rest
    if 1 ≤ count.toNat ∧ count.toNat ≤ 8 ∧ es.length = count.toNat then pure (k, es) else none
  | _ => none

/-- One chute (CHAIN_CLEAR R120, READ_CHUTE R179). -/
def parseChute : List Byte → Option Chute
  | [k] => indexOf 32 k
  | _ => none

/-- A tray of two bytes, at most 1023 (R176, R178). -/
def trayOf (hi lo : Byte) : Option Tray :=
  if h : (be16 hi lo).toNat < 1024 then some ⟨(be16 hi lo).toNat, h⟩ else none

/-- ABANDON_TRAY: a tray (R176). -/
def parseTray : List Byte → Option Tray
  | [hi, lo] => trayOf hi lo
  | _ => none

/-- EVENT_ROUTE: an event kind 1 to 12, as its place in the route table, and a route (R160). -/
def parseRoute : List Byte → Option (Fin 12 × Route)
  | [k, r] => do
    let r ← routeOf r
    if k.toNat = 0 then none else do
    let i ← indexOf 12 (k - 1)
    pure (i, r)
  | _ => none

/-- READ_CONTEXT: a tray and a part 0 to 2 (R178). -/
def parseReadContext : List Byte → Option (Tray × Fin 3)
  | [hi, lo, part] => do
    let t ← trayOf hi lo
    let q ← indexOf 3 part
    pure (t, q)
  | _ => none

/-! ### Table writes (R56, R58, R60, R70, R72, R177) -/

/-- A validated table write. -/
inductive TableChange where
  | weights (set : Fin 16) (first : Fin 128) (entries : List WeightEntry)
  | profile (category : Fin 64) (p : Profile)
  | reasons (r : Vector (BitVec 8) 16)
  | window (g : Grade) (i : Fin 8) (w : Window)
  | target (g : Grade) (t : Target)
  deriving DecidableEq, Repr

/-- The target checks of R70. -/
def parseTarget (cls first width spread : Byte) : Option Target := do
  let c ← dispositionOf cls
  let f ← indexOf 32 first
  let s ← spreadOf spread
  if 1 ≤ width.toNat ∧ width.toNat ≤ 8 ∧ f.val + width.toNat - 1 ≤ 31 then
    pure { cls := c, first := f, width := width.toNat, spread := s }
  else none

/-- The entries of a WRITE_WEIGHTS: one weight byte each, its manual flag the mask's bit at its place (R148). -/
def weightEntries (mask : BitVec 32) (ws : List Byte) : List WeightEntry :=
  ws.zipIdx.map (fun wi => { weight := wi.1.toNat, manual := mask.getLsbD wi.2 })

/-- WRITE_WEIGHTS: defect set, first code, count, manual mask and weights (R56, R148). -/
def parseWriteWeights : List Byte → Option TableChange
  | set :: first :: count :: m3 :: m2 :: m1 :: m0 :: ws => do
    let st ← indexOf 16 set
    let f ← indexOf 128 first
    if 1 ≤ count.toNat ∧ count.toNat ≤ 32 ∧ f.val + count.toNat - 1 ≤ 127 ∧ ws.length = count.toNat then
      pure (.weights st f (weightEntries (be32 m3 m2 m1 m0) ws))
    else none
  | _ => none

/-- WRITE_PROFILE: 20 bytes, or category and a clear valid flag alone (R58, R177). With the flag clear only the category is
checked and the entry takes the zero profile (R59). -/
def parseWriteProfile : List Byte → Option TableChange
  | [cat, valid] => do
    let c ← indexOf 64 cat
    if valid = 0 then pure (.profile c {}) else none
  | [cat, valid, set, mandatory, a1, a0, b1, b0, c1, c0, d1, d0, tol, al1, al0, rate, cap1, cap0, req, points] => do
    let c ← indexOf 64 cat
    let v ← flagOf valid
    if !v then pure (.profile c {}) else do
    let st ← indexOf 16 set
    let r ← flagOf req
    let tA := (be16 a1 a0).toNat
    let tB := (be16 b1 b0).toNat
    let tC := (be16 c1 c0).toNat
    let tD := (be16 d1 d0).toNat
    let allowance := (be16 al1 al0).toNat
    let cap := (be16 cap1 cap0).toNat
    if mandatory.toNat < 16 ∧ tA ≤ tB ∧ tB ≤ tC ∧ tC ≤ tD ∧ tD ≤ Config.scoreMax ∧ tol.toNat ≤ 25 ∧ allowance ≤ 365
        ∧ rate.toNat ≤ 50 ∧ cap ≤ 1000 then
      pure (.profile c { valid := true, defectSet := st, mandatory := mandatory.setWidth 4, tA, tB, tC, tD,
                         tolerance := tol.toNat, allowance, rate := rate.toNat, cap, tagsRequired := r,
                         tagPoints := points.toNat })
    else none
  | _ => none

/-- WRITE_REASONS: sixteen signed entries, reason 0 first (R60). -/
def parseWriteReasons (bs : List Byte) : Option TableChange :=
  if h : bs.length = 16 then some (.reasons ⟨⟨bs⟩, by simpa using h⟩) else none

/-- The category of a window: 255 ANY, or one category (R70, R177). -/
def windowCategory (b : Byte) : Option (Option (Fin 64)) := if b = 255 then some none else (indexOf 64 b).map some

/-- WRITE_WINDOW: 13 bytes, or grade, index and a clear enabled flag alone (R70, R177). With the flag clear only the grade
and index are checked and the window takes the blank values (R71). -/
def parseWriteWindow : List Byte → Option TableChange
  | [grade, index, enabled] => do
    let g ← gradeOf grade
    let i ← indexOf 8 index
    if enabled = 0 then pure (.window g i {}) else none
  | [grade, index, enabled, cat, tiers, lo, hi, rHi, rLo, cls, first, width, spread] => do
    let g ← gradeOf grade
    let i ← indexOf 8 index
    let e ← flagOf enabled
    if !e then pure (.window g i {}) else do
    let c ← windowCategory cat
    let l ← indexOf 16 lo
    let h ← indexOf 16 hi
    let t ← parseTarget cls first width spread
    if tiers ≠ 0 ∧ l ≤ h ∧ be16 rHi rLo ≠ 0 then
      pure (.window g i { enabled := true, category := c, tiers, lo := l, hi := h, reasons := be16 rHi rLo, target := t })
    else none
  | _ => none

/-- WRITE_DEFAULT: a grade and a target (R72). -/
def parseWriteDefault : List Byte → Option TableChange
  | [grade, cls, first, width, spread] => do
    let g ← gradeOf grade
    let t ← parseTarget cls first width spread
    pure (.target g t)
  | _ => none

/-- The table write that a command code and its parameters stand for (R148). -/
def parseTableChange (code : Byte) (params : List Byte) : Option TableChange :=
  match code.toNat with
  | 0x04 => parseWriteWeights params
  | 0x05 => parseWriteProfile params
  | 0x06 => parseWriteReasons params
  | 0x07 => parseWriteWindow params
  | 0x08 => parseWriteDefault params
  | _ => none

/-- A run of entries written from index i on, the first to i and each later one to the next (R57). -/
def writeRun {α : Type} {n : Nat} (v : Vector α n) (i : Nat) : List α → Vector α n
  | [] => v
  | e :: es => writeRun (v.setIfInBounds i e) (i + 1) es

/-- The one step of a table write (R54): every entry it names is changed together. -/
def State.writeTable (s : State) : TableChange → State
  | .weights st f es => { s with weights := s.weights.set st (writeRun s.weights[st] f.val es) }
  | .profile c p => { s with profiles := s.profiles.set c p }
  | .reasons r => { s with reasons := r }
  | .window g i w => { s with windows := s.windows.set g.index (s.windows[g.index].set i w) }
  | .target g t => { s with defaults := s.defaults.set g.index t }

/-- The result payload of a table write (R57, R59, R60, R71, R72). -/
def TableChange.payload : TableChange → List Byte
  | .weights st f es => [byteOf st.val, byteOf f.val, byteOf es.length]
  | .profile c p => [byteOf c.val, flagByte p.valid]
  | .reasons _ => []
  | .window g i w => [byteOf (gradeCode (some g)), byteOf i.val, flagByte w.enabled]
  | .target g _ => [byteOf (gradeCode (some g))]

/-! ### The fields of table entries as bytes, in the order the writing command carries them (R180) -/

/-- A target's fields. -/
def Target.bytes (t : Target) : List Byte :=
  [byteOf t.cls.code, byteOf t.first.val, byteOf t.width, byteOf t.spread.code]

/-- A profile's fields. -/
def Profile.bytes (p : Profile) : List Byte :=
  [flagByte p.valid, byteOf p.defectSet.val, p.mandatory.setWidth 8] ++ bytes2 p.tA ++ bytes2 p.tB ++ bytes2 p.tC
    ++ bytes2 p.tD ++ [byteOf p.tolerance] ++ bytes2 p.allowance ++ [byteOf p.rate] ++ bytes2 p.cap
    ++ [flagByte p.tagsRequired, byteOf p.tagPoints]

/-- A window's fields; ANY is sent as 255 (R148). -/
def Window.bytes (w : Window) : List Byte :=
  [flagByte w.enabled, (match w.category with | some c => byteOf c.val | none => 255), w.tiers, byteOf w.lo.val,
    byteOf w.hi.val] ++ bytes2 w.reasons.toNat ++ w.target.bytes

/-- The table entry that READ_TABLE addresses: a table code and two address bytes, always three; a byte that is not read is
not checked (R62, R74, R180). The answer is the entry's fields. -/
def State.readTable (s : State) : List Byte → Option (List Byte)
  | [table, a, b] =>
    match table.toNat with
    | 0 => do
      let st ← indexOf 16 a
      let c ← indexOf 128 b
      let e := s.weights[st][c]
      pure [byteOf e.weight, flagByte e.manual]
    | 1 => do
      let c ← indexOf 64 a
      pure s.profiles[c].bytes
    | 2 => do
      let r ← indexOf 16 a
      pure [s.reasons[r]]
    | 3 => do
      let g ← gradeOf a
      let i ← indexOf 8 b
      pure s.windows[g.index][i].bytes
    | 4 => do
      let g ← gradeOf a
      pure s.defaults[g.index].bytes
    | _ => none
  | _ => none

/-! ### The chutes of a target (R67, R68) -/

/-- A chute number, if it is one. -/
def chuteAt (n : Nat) : Option Chute := if h : n < 32 then some ⟨n, h⟩ else none

/-- The candidate chutes of a target for a size band, in the order tried: the one chute of SIZE, or the range of FILL
ascending. -/
def Target.candidates (t : Target) (size : Fin 16) : List Chute :=
  match t.spread with
  | .size => (chuteAt (t.first.val + size.val % t.width)).toList
  | .fill => (List.range t.width).filterMap (fun i => chuteAt (t.first.val + i))

end Sys2Proof.Machine
end

