-- ==== Sys2Proof/Machine/Chutes.lean ====
section
/-! DEFINITION. The tote chain unit's commands and signals (chapter 6). -/

namespace Sys2Proof.Machine

/-! ### CHAIN_LOAD (R106, R107) -/

/-- The FREE descriptors, lowest first (R106). -/
def State.freeDescriptors (s : State) : List DescriptorIndex :=
  allDescriptors.filter (fun d => (s.descriptor d).state = .free)

/-- The last descriptor of a chute's sequence: the last of its chain, or its pending or ACTIVE descriptor (R107). -/
def ChuteRecord.lastOfSequence (c : ChuteRecord) : Option DescriptorIndex :=
  match c.chain.getLast? with
  | some d => some d
  | none => match c.pending with
    | some d => some d
    | none => c.active

/-- The descriptor that a tote entry makes, naming the one behind it (R104, R106). -/
def ToteEntry.descriptor (e : ToteEntry) (next : Option DescriptorIndex) : Descriptor :=
  { state := .queued, toteId := e.toteId, capacity := e.capacity, weightLimit := e.weightLimit,
    continueFlag := e.continueFlag, next }

/-- The taken descriptors take their entries, each naming the one taken after it (R104, R106). -/
def State.fillDescriptors (s : State) : List (DescriptorIndex × ToteEntry) → State
  | [] => s
  | (d, e) :: rest =>
    (s.modDescriptor d (fun _ => e.descriptor (rest.head?.map Prod.fst))).fillDescriptors rest

/-- The former last descriptor of a sequence, if there is one, names the first appended one (R107). -/
def State.linkLast (s : State) (last first : Option DescriptorIndex) : State :=
  match last with
  | some d => s.modDescriptor d (fun D => { D with next := first })
  | none => s

/-- CHAIN_LOAD's execution: the lowest FREE descriptors are taken in entry order and appended to the chain; an UNCONFIGURED or
EXHAUSTED chute enters SWAPPING (R106, R107). -/
def chainLoadAct (params : List Byte) (s : State) : State × Reply :=
  match parseChainLoad params with
  | none => refuse s .badParam
  | some (k, es) =>
    if s.freeDescriptors.length < es.length then refuse s .noSpace
    else
      let ds := s.freeDescriptors.take es.length
      let s1 := (s.fillDescriptors (ds.zip es)).linkLast (s.chute k).lastOfSequence ds.head?
      let s2 := s1.modChute k (fun c => { c with chain := c.chain ++ ds })
      let s3 := match (s.chute k).state with
        | .unconfigured | .exhausted => s2.enterSwapping k
        | _ => s2
      (s3, .done .ok (byteOf k.val :: byteOf ds.length :: ds.map (fun d => byteOf d.val)))

/-- CHAIN_LOAD (R106). -/
def execChainLoad (tag : Byte) (params : List Byte) (s : State) : Host.Outcome State Fault Refusal :=
  .next (s.runCommand tag 0x09 params (chainLoadAct params))

/-! ### CHAIN_CLEAR (R120) -/

/-- Descriptors become FREE with the values of R103. -/
def State.freeAll (s : State) (ds : List DescriptorIndex) : State := ds.foldl (fun u d => u.modDescriptor d (fun _ => {})) s

/-- The chain of a chute with no order outstanding is cleared (R120). -/
def State.clearChain (s : State) (k : Chute) : State :=
  let c := s.chute k
  let s1 := match c.active with
    | some d => s.closeDescriptor k d .cleared
    | none => s
  let s2 := (s1.freeAll (c.pending.toList ++ c.chain)).modChute k (fun c => { c with
    state := .unconfigured, active := none, pending := none, chain := [], pendingCause := none })
  if c.state = .unconfigured then s2 else s2.chuteEvent k .unconfigured

/-- CHAIN_CLEAR's execution (R120). -/
def chainClearAct (params : List Byte) (s : State) : State × Reply :=
  match parseChute params with
  | none => refuse s .badParam
  | some k => if s.ordersAt k = 0 then (s.clearChain k, .done .ok [byteOf k.val]) else refuse s .refusedState

/-- CHAIN_CLEAR (R120). -/
def execChainClear (tag : Byte) (params : List Byte) (s : State) : Host.Outcome State Fault Refusal :=
  .next (s.runCommand tag 0x0A params (chainClearAct params))

/-! ### CHUTE_CONTROL (R115, R119, R121) -/

/-- The result payload of a CHUTE_CONTROL: chute, action, chute state after the action (R176). -/
def State.controlPayload (s : State) (k : Chute) (action : Nat) : List Byte :=
  [byteOf k.val, byteOf action, byteOf (s.chute k).state.code]

/-- A CHUTE_CONTROL action on its chute; none is a state that does not allow it. -/
def controlAct (action : Nat) (params : List Byte) (effect : State → Chute → Option State) (s : State) : State × Reply :=
  match parseControl action params with
  | none => refuse s .badParam
  | some k =>
    match effect s k with
    | some t => (t, .done .ok (t.controlPayload k action))
    | none => refuse s .refusedState

/-- An OPEN chute is called to close with a cause: at once with no order outstanding, else it becomes CLOSING (R114, R115). -/
def State.callClose (s : State) (k : Chute) (cause : CloseCause) : State :=
  if s.ordersAt k = 0 then s.closeTote k cause
  else (s.modChute k (fun c => { c with state := .closing, pendingCause := some cause })).chuteEvent k .closing

/-- ENABLE (R121). -/
def execEnable (tag : Byte) (params : List Byte) (s : State) : Host.Outcome State Fault Refusal :=
  .next (s.runCommand tag 0x0B params
    (controlAct 0 params (fun s k => some (s.modChute k (fun c => { c with disabled := false })))))

/-- DISABLE (R121). -/
def execDisable (tag : Byte) (params : List Byte) (s : State) : Host.Outcome State Fault Refusal :=
  .next (s.runCommand tag 0x0B params
    (controlAct 1 params (fun s k => some (s.modChute k (fun c => { c with disabled := true })))))

/-- CLOSE_NOW: of an OPEN chute (R115). -/
def execCloseNow (tag : Byte) (params : List Byte) (s : State) : Host.Outcome State Fault Refusal :=
  .next (s.runCommand tag 0x0B params
    (controlAct 2 params (fun s k => if (s.chute k).state = .opened then some (s.callClose k .forced) else none)))

/-- ADVANCE: of an EXHAUSTED chute with a non-empty chain (R119). -/
def execAdvance (tag : Byte) (params : List Byte) (s : State) : Host.Outcome State Fault Refusal :=
  .next (s.runCommand tag 0x0B params
    (controlAct 3 params (fun s k =>
      if (s.chute k).state = .exhausted ∧ (s.chute k).chain ≠ [] then some (s.enterSwapping k) else none)))

/-! ### Chute signals from the sorter, taken while its link is UP (R150) -/

/-- TOTE_FULL (R114). -/
def execToteFull (k : Chute) (s : State) : Host.Outcome State Fault Refusal :=
  .next (s.sorterFrame (if (s.chute k).state = .opened then s.callClose k .fullSignal else s.chuteEvent k .fullIgnored))

/-- A tote id read at a chute matches the pending descriptor's (R109). -/
def toteMatches (wanted read : BitVec 16) : Bool := read != 0 && (wanted == 0 || wanted == read)

/-- TOTE_IN_PLACE: acts in SWAPPING only (R109). -/
def toteInPlace (k : Chute) (x : BitVec 16) (s : State) : State :=
  match (s.chute k).state, (s.chute k).pending with
  | .swapping, some d =>
    if toteMatches (s.descriptor d).toteId x then
      ((s.modDescriptor d (fun D => { D with
          state := .active, committedItems := 0, committedGrams := 0, reservedItems := 0, reservedGrams := 0, strays := 0,
          readId := x })).modChute k
        (fun c => { c with state := .opened, active := some d, pending := none })).chuteEvent k .opened
    else s.chuteEvent k (.toteMismatch x)
  | _, _ => s

/-- TOTE_IN_PLACE (R109). -/
def execToteInPlace (k : Chute) (x : BitVec 16) (s : State) : Host.Outcome State Fault Refusal :=
  .next (s.sorterFrame (toteInPlace k x s))

/-- CHUTE_JAM (R122). -/
def execChuteJam (k : Chute) (s : State) : Host.Outcome State Fault Refusal :=
  .next (s.sorterFrame ((s.modChute k (fun c => { c with jammed := true })).chuteEvent k .jammed))

/-- CHUTE_CLEAR (R122). -/
def execChuteClear (k : Chute) (s : State) : Host.Outcome State Fault Refusal :=
  .next (s.sorterFrame ((s.modChute k (fun c => { c with jammed := false })).chuteEvent k .jamCleared))

end Sys2Proof.Machine
end

