-- ==== Sys2Proof/Machine/Divert.lean ====
section
/-! DEFINITION. The divert sequencer (chapter 5): decision requests, divert reports, order expiry and the cancel of an
abandon. -/

namespace Sys2Proof.Machine

/-- The outstanding order for tray t, of which the list holds at most one (R77). -/
def State.orderFor (s : State) (t : Tray) : Option DivertOrder := s.orders.find? (fun o => o.tray = t)

/-- The outstanding order for tray t at chute k (R90). -/
def State.orderAt (s : State) (t : Tray) (k : Chute) : Option DivertOrder :=
  s.orders.find? (fun o => o.tray = t ∧ o.chute = k)

/-! ### Decision requests (R80 to R88) -/

/-- The item weight of a graded context (R80). -/
def State.itemWeight (s : State) (c : Context) : Nat :=
  match c.measured with
  | some m => m
  | none => if c.catalogue = 0 then s.settings.defaultWeight else c.catalogue

/-- The five tests of R81, in their order; the answer is the descriptor that grants the reservation. -/
def State.acceptable (s : State) (k : Chute) (g : Nat) : Option DescriptorIndex :=
  if (s.chute k).state = .opened ∧ (s.chute k).disabled = false ∧ (s.chute k).jammed = false
      ∧ s.ordersAt k < Config.ordersPerChute then s.grants k g
  else none

/-- The first acceptable chute of a list of candidates, with its descriptor (R87). -/
def State.firstAcceptable (s : State) (g : Nat) : List Chute → Option (Chute × DescriptorIndex)
  | [] => none
  | k :: rest =>
    match s.acceptable k g with
    | some d => some (k, d)
    | none => s.firstAcceptable g rest

/-- An order is issued: the reservation held, the entry written with its timer, the DIVERT_ORDER sent, and a named context
ORDERED (R82). -/
def State.issueOrder (s : State) (t : Tray) (k : Chute) (d : DescriptorIndex) (g : Nat) (c : Option ContextIndex) : State :=
  let o : DivertOrder :=
    { tray := t, chute := k, descriptor := d, grams := g, context := c, remaining := s.settings.orderTimeout * 1000 }
  (({ s with orders := s.orders ++ [o] }.modDescriptor d (fun D => D.reserve g)).sendSorter
    (.divertOrder t k)).forContext c State.placeOrder

/-- A RECIRC_ORDER is sent and, for a live context, a lap counted (R5, R76). -/
def State.recirculate (s : State) (t : Tray) (c : Option ContextIndex) : State :=
  (s.sendSorter (.recircOrder t)).forContext c State.countLap

/-- An order still outstanding for the tray at its next request is settled as an implied miss (R83). -/
def State.impliedMiss (s : State) (t : Tray) : State :=
  match s.orderFor t with
  | none => s
  | some o => ((s.settleRelease o).offerEvent (.impliedMiss t o.chute)).forContext o.context State.unorder

/-- The exception chute is tried for a request; where it is refused the tray recirculates and EXCEPTION_UNAVAILABLE is offered
(R84, R88). -/
def State.tryException (s : State) (t : Tray) (g : Nat) (c : Option ContextIndex) : State :=
  let k := s.settings.exceptionChute
  match s.acceptable k g with
  | some d => s.issueOrder t k d g c
  | none => (s.recirculate t c).offerEvent (.exceptionUnavailable t k)

/-- The target's candidates are tried for a graded context below the lap limit (R87). -/
def State.tryTarget (s : State) (t : Tray) (i : ContextIndex) : State :=
  let c := s.context i
  let g := s.itemWeight c
  let ks := match c.target with
    | some ct => ct.target.candidates c.size
    | none => []
  match s.firstAcceptable g ks with
  | some (k, d) => s.issueOrder t k d g (some i)
  | none => s.recirculate t (some i)

/-- The answer to a request for tray t by the state of its context (R84 to R88). -/
def State.answerRequest (s : State) (t : Tray) : State :=
  match s.lookup t with
  | none => s.tryException t s.settings.defaultWeight none
  | some i =>
    match (s.context i).state with
    | .opened => (s.seal i).recirculate t (some i)
    | .graded =>
      if (s.context i).laps < s.settings.lapLimit then s.tryTarget t i
      else (s.modContext i (fun c => { c with exceptionRoute := true })).tryException t (s.itemWeight (s.context i)) (some i)
    | _ => s.recirculate t (some i)

/-- DECISION_REQ (R83), taken while the sorter link is UP (R101). -/
def execDecisionReq (t : Tray) (s : State) : Host.Outcome State Fault Refusal :=
  .next (s.sorterFrame ((s.impliedMiss t).answerRequest t))

/-! ### Divert reports (R90 to R95) -/

/-- An item delivered as ordered (R90). The read tote id is that of the entry's descriptor, read before a close may free
it. -/
def State.deliver (s : State) (t : Tray) (k : Chute) (o : DivertOrder) : State :=
  let readId := (s.descriptor o.descriptor).readId
  let s1 := s.settleCommit o
  match o.context with
  | some i => s1.closeDiverted i { chute := k, toteId := readId }
  | none => s1.offerEvent (.untrackedDivert t k)

/-- An item that went into chute k though ordered to another (R91). -/
def State.deliverElsewhere (s : State) (t : Tray) (k : Chute) (o : DivertOrder) : State :=
  let (s1, id) := (s.settleRelease o).stray k
  (s1.forContext o.context (fun u i => u.closeMisdelivered i { chute := k, toteId := id })).offerEvent
    (.strayDivert t k (some o.chute))

/-- A divert with no order for its tray (R92). -/
def State.deliverUnordered (s : State) (t : Tray) (k : Chute) : State :=
  let (s1, id) := s.stray k
  let s2 := s1.offerEvent (.strayDivert t k none)
  match s.lookup t with
  | none => s2
  | some i =>
    match (s.context i).state with
    | .queued | .graded => s2.closeMisdelivered i { chute := k, toteId := id }
    | .opened | .grading => s2.offerEvent (.unmatchedReport t k .done)
    | _ => s2

/-- DIVERT_DONE (R90), taken while the sorter link is UP (R101). -/
def execDivertDone (t : Tray) (k : Chute) (s : State) : Host.Outcome State Fault Refusal :=
  .next (s.sorterFrame (match s.orderAt t k with
    | some o => s.deliver t k o
    | none =>
      match s.orderFor t with
      | some o => s.deliverElsewhere t k o
      | none => s.deliverUnordered t k))

/-- An order settled as missed: released, and its context returned to GRADED with a lap counted (R94, R96). -/
def State.missOrder (s : State) (o : DivertOrder) : State :=
  (s.settleRelease o).forContext o.context (fun u i => (u.unorder i).countLap i)

/-- DIVERT_MISSED (R94, R95), taken while the sorter link is UP (R101). -/
def execDivertMissed (t : Tray) (k : Chute) (s : State) : Host.Outcome State Fault Refusal :=
  .next (s.sorterFrame (match s.orderAt t k with
    | some o => s.missOrder o
    | none => s.offerEvent (.unmatchedReport t k .missed)))

/-- The entry of tray t at chute k whose remaining time has reached 0 (R96). -/
def State.expiredOrder (s : State) (t : Tray) (k : Chute) : Option DivertOrder :=
  s.orders.find? (fun o => o.tray = t ∧ o.chute = k ∧ o.remaining = 0)

/-- ORDER_EXPIRY: the order of tray t at chute k expires (R96). With no such entry, or with time left, none does. -/
def execOrderExpiry (t : Tray) (k : Chute) (s : State) : Host.Outcome State Fault Refusal :=
  .next (match s.expiredOrder t k with
    | some o => (s.missOrder o).offerEvent (.orderExpired t k)
    | none => s)

/-! ### The cancel of an abandon (R99) -/

/-- The order of an ORDERED context is cancelled and the context returned to GRADED (R24, R99). -/
def State.cancelOrder (s : State) (i : ContextIndex) : State :=
  (match s.orders.find? (fun (o : DivertOrder) => o.context = some i) with
    | some o => s.settleRelease o
    | none => s).unorder i

end Sys2Proof.Machine
end

