-- ==== Sys2Proof/Machine/Management.lean ====
section
/-! DEFINITION. The management commands of the engine itself and of the report unit, the reads, ABANDON_TRAY and SOFT_RESET
(chapter 10). -/

namespace Sys2Proof.Machine

/-- CONFIGURE's execution: all eight fields are written together (R173). -/
def configureAct (params : List Byte) (s : State) : State × Reply :=
  match parseConfigure params with
  | none => refuse s .badParam
  | some g => ({ s with settings := g }, .done .ok g.bytes)

/-- CONFIGURE (R173). -/
def execConfigure (tag : Byte) (params : List Byte) (s : State) : Host.Outcome State Fault Refusal :=
  .next (s.runCommand tag 0x01 params (configureAct params))

/-- BAD_COMMAND: the code names no command (R170). -/
def execBadCommand (tag code : Byte) (params : List Byte) (s : State) : Host.Outcome State Fault Refusal :=
  .next (s.runCommand tag code params (fun s => refuse s .badCommand))

/-! ### The report unit's commands (R160, R161) -/

/-- EVENT_ROUTE's execution (R160). -/
def eventRouteAct (params : List Byte) (s : State) : State × Reply :=
  match parseRoute params with
  | none => refuse s .badParam
  | some (k, r) => ({ s with routes := s.routes.set k r }, .done .ok [byteOf (k.val + 1), byteOf r.code])

/-- EVENT_ROUTE (R160). -/
def execEventRoute (tag : Byte) (params : List Byte) (s : State) : Host.Outcome State Fault Refusal :=
  .next (s.runCommand tag 0x11 params (eventRouteAct params))

/-- ACK_ATTENTION's execution (R161). -/
def ackAttentionAct (params : List Byte) (s : State) : State × Reply :=
  if params = [] then ({ s with attention := false }, .done .ok []) else refuse s .badParam

/-- ACK_ATTENTION (R161). -/
def execAckAttention (tag : Byte) (params : List Byte) (s : State) : Host.Outcome State Fault Refusal :=
  .next (s.runCommand tag 0x12 params (ackAttentionAct params))

/-! ### ABANDON_TRAY (R24, R25, R99) -/

/-- ABANDON_TRAY's execution, by the state of the tray's context (R24). -/
def abandonTrayAct (params : List Byte) (s : State) : State × Reply :=
  match parseTray params with
  | none => refuse s .badParam
  | some t =>
    let done := Reply.done .ok (bytes2 t.val)
    match s.lookup t with
    | none => refuse s .notFound
    | some i =>
      match (s.context i).state with
      | .grading => (s.modContext i (fun c => { c with abandonMark := true }), .wait)
      | .ordered => ((s.cancelOrder i).closeContext i .abandoned none, done)
      | _ => (s.closeContext i .abandoned none, done)

/-- ABANDON_TRAY (R24). -/
def execAbandonTray (tag : Byte) (params : List Byte) (s : State) : Host.Outcome State Fault Refusal :=
  .next (s.runCommand tag 0x0C params (abandonTrayAct params))

/-! ### Reads (R178 to R181) -/

/-- The forced causes as a set: bit 0 NO_PROFILE to bit 4 OBSERVATION_LOST (R178). -/
def Causes.byte (k : Causes) : Byte :=
  byteOf (k.noProfile.toNat + 2 * k.manualDefect.toNat + 4 * k.labelMismatch.toNat + 8 * k.missingMandatory.toNat
    + 16 * k.observationLost.toNat)

/-- Tags present as sent: 0 absent, 1 yes, 2 no (R178). -/
def tagsByte : Option Bool → Byte
  | none => 0
  | some true => 1
  | some false => 2

/-- A signed score part as a byte in two's complement (R147). -/
def signedByte (x : Int) : Byte := BitVec.ofInt 8 x

/-- A held target as sent, 255 in each place when there is none (R178). -/
def heldTargetBytes : Option ChosenTarget → List Byte
  | some ct => [byteOf ct.target.cls.code, byteOf ct.target.first.val, byteOf ct.target.width, byteOf ct.target.spread.code,
      byteOf (windowCode ct.window)]
  | none => [255, 255, 255, 255, 255]

/-- Part 0 of READ_CONTEXT: 48 bytes (R178). -/
def Context.recordBytes (c : Context) (i : ContextIndex) : List Byte :=
  [byteOf i.val, byteOf c.state.code, byteOf c.category.val, byteOf c.tier.val, byteOf c.season.val, byteOf c.size.val,
    byteOf c.reason.val] ++ bytes2 c.days.val ++ bytes2 c.catalogue ++ bytes4 c.orderRef.toNat
    ++ bytes2 (c.measured.getD 65535)
    ++ [tagsByte c.tags, flagByte c.mismatch, c.expected, c.reported, c.lost, flagByte c.late, flagByte c.overflow,
      flagByte c.manualDropped, flagByte c.abandonMark, byteOf c.laps, byteOf (gradeCode c.grade)]
    ++ bytes2 c.score.defect ++ bytes2 c.score.weight ++ bytes2 c.score.age
    ++ [byteOf c.score.tag, signedByte c.score.reason] ++ bytes2 c.score.total ++ [c.causes.byte]
    ++ heldTargetBytes c.target
    ++ [flagByte c.ageUnknown, flagByte c.weightUnchecked, flagByte c.exceptionRoute, byteOf c.observations.length]

/-- A list entry as READ_CONTEXT sends it (R178). -/
def Observation.bytes (o : Observation) : List Byte :=
  [byteOf o.code.val, byteOf o.zone, byteOf o.extent] ++ bytes2 o.points ++ [flagByte o.manual]

/-- The part of a context that READ_CONTEXT returns (R178). -/
def Context.partBytes (c : Context) (i : ContextIndex) (part : Fin 3) : List Byte :=
  if part = 0 then c.recordBytes i
  else
    let entries := if part = 1 then c.observations.take 6 else (c.observations.drop 6).take 6
    [byteOf i.val, byteOf c.state.code, byteOf c.observations.length] ++ entries.flatMap Observation.bytes

/-- READ_CONTEXT's execution (R178). -/
def readContextAct (params : List Byte) (s : State) : State × Reply :=
  match parseReadContext params with
  | none => refuse s .badParam
  | some (t, part) =>
    match s.lookup t with
    | none => refuse s .notFound
    | some i => (s, .done .ok ((s.context i).partBytes i part))

/-- READ_CONTEXT (R178). -/
def execReadContext (tag : Byte) (params : List Byte) (s : State) : Host.Outcome State Fault Refusal :=
  .next (s.runCommand tag 0x0D params (readContextAct params))

/-- The ACTIVE descriptor's fields as READ_CHUTE sends them; the values of a FREE descriptor, all 0, where there is none
(R179). -/
def Descriptor.bytes (D : Descriptor) : List Byte :=
  bytes2 D.toteId.toNat ++ bytes2 D.readId.toNat ++ [byteOf D.capacity] ++ bytes2 D.weightLimit
    ++ [flagByte D.continueFlag, byteOf D.committedItems] ++ bytes2 D.committedGrams ++ [byteOf D.reservedItems]
    ++ bytes2 D.reservedGrams ++ [byteOf D.strays]

/-- A close cause as READ_CHUTE sends it, 255 for none (R179). -/
def causeByte : Option CloseCause → Byte
  | some c => byteOf c.code
  | none => 255

/-- READ_CHUTE's snapshot (R179). -/
def State.chuteBytes (s : State) (k : Chute) : List Byte :=
  let c := s.chute k
  let D : Descriptor := match c.active with
    | some d => s.descriptor d
    | none => {}
  [byteOf k.val, byteOf c.state.code, flagByte c.disabled, flagByte c.jammed, descriptorByte c.pending,
    descriptorByte c.active, causeByte c.pendingCause, byteOf (s.ordersAt k)] ++ D.bytes
    ++ byteOf c.chain.length :: (c.chain.take 32).map (fun d => byteOf d.val)

/-- READ_CHUTE's execution (R179). -/
def readChuteAct (params : List Byte) (s : State) : State × Reply :=
  match parseChute params with
  | none => refuse s .badParam
  | some k => (s, .done .ok (s.chuteBytes k))

/-- READ_CHUTE (R179). -/
def execReadChute (tag : Byte) (params : List Byte) (s : State) : Host.Outcome State Fault Refusal :=
  .next (s.runCommand tag 0x0E params (readChuteAct params))

/-- READ_TABLE's execution: the payload echoes the three bytes and then carries the entry (R180). -/
def readTableAct (params : List Byte) (s : State) : State × Reply :=
  match s.readTable params with
  | none => refuse s .badParam
  | some fields => (s, .done .ok (params ++ fields))

/-- READ_TABLE (R180). -/
def execReadTable (tag : Byte) (params : List Byte) (s : State) : Host.Outcome State Fault Refusal :=
  .next (s.runCommand tag 0x0F params (readTableAct params))

/-- The number of contexts in a state (R181). -/
def State.contextsIn (s : State) (st : ContextState) : Nat := s.contexts.toList.countP (fun c => c.state = st)

/-- READ_STATUS's snapshot (R181). -/
def State.statusBytes (s : State) : List Byte :=
  ([ContextState.free, .opened, .queued, .grading, .graded, .ordered, .reporting].flatMap
      (fun st => bytes2 (s.contextsIn st)))
    ++ bytes2 s.gradingQueue.length ++ s.ports.toList.map (fun P => byteOf P.state.code)
    ++ [byteOf s.lineLink.code, byteOf s.sorterLink.code, byteOf s.outbound.length, flagByte s.attention]
    ++ s.routes.toList.map (fun r => byteOf r.code)
    ++ [byteOf (s.descriptors.toList.countP (fun D => D.state = .free)), byteOf s.orders.length] ++ s.settings.bytes

/-- READ_STATUS's execution (R181). -/
def readStatusAct (params : List Byte) (s : State) : State × Reply :=
  if params = [] then (s, .done .ok s.statusBytes) else refuse s .badParam

/-- READ_STATUS (R181). -/
def execReadStatus (tag : Byte) (params : List Byte) (s : State) : Host.Outcome State Fault Refusal :=
  .next (s.runCommand tag 0x10 params (readStatusAct params))

/-! ### SOFT_RESET (R182) -/

/-- A port record after soft reset: the classes and the capability are kept (R142). -/
def PortRecord.softReset (P : PortRecord) : PortRecord :=
  { expectedClass := P.expectedClass, detectedClass := P.detectedClass, capability := P.capability }

/-- The settings after soft reset, by the lock flag (R175). -/
def Settings.softReset (g : Settings) : Settings := if g.lock then g else {}

/-- The frame that the line link is sending: an entry of a queue emptied by an earlier soft reset, else the head of the
outbound queue while the link is UP (R153, R155). -/
def State.sending (s : State) : Option OutFrame :=
  s.lineFinishing <|> (if s.lineLink = .up then s.outbound.head? else none)

/-- The one step of SOFT_RESET across every block (R182). Tables, windows and defaults, links and the sorter's waiting answers
are kept; no frame being sent is interrupted, on the line link or at a station port (R155). -/
def State.softReset (s : State) : State :=
  { s with
    contexts := State.reset.contexts
    trayMap := State.reset.trayMap
    gradingQueue := []
    stampCounter := 0
    inFlight := none
    orders := []
    chutes := State.reset.chutes
    descriptors := State.reset.descriptors
    waitingTotes := []
    ports := vecMap PortRecord.softReset s.ports
    stationTx := vecOf s.stationSending
    lineFinishing := s.sending
    outbound := []
    routes := if s.settings.lock then s.routes else State.reset.routes
    attention := false
    dropped := 0
    settings := s.settings.softReset }

/-- SOFT_RESET's execution (R182). -/
def softResetAct (params : List Byte) (s : State) : State × Reply :=
  if params = [] then (s.softReset, .done .ok []) else refuse s .badParam

/-- SOFT_RESET (R182, R183). -/
def execSoftReset (tag : Byte) (params : List Byte) (s : State) : Host.Outcome State Fault Refusal :=
  .next (s.runCommand tag 0x13 params (softResetAct params))

end Sys2Proof.Machine
end

