-- ==== Sys2Proof/Machine/Frames.lean ====
section
/-! DEFINITION. The frames the engine sends, as bytes: the layouts of R147 to R149 with the check of R144. -/

namespace Sys2Proof.Machine

/-! ### ITEM_RESULT (R147) -/

/-- The forced causes in byte 10 of an ITEM_RESULT: bits 4 to 0, NO_PROFILE to OBSERVATION_LOST (R147). -/
def Causes.resultBits (k : Causes) : Nat :=
  16 * k.noProfile.toNat + 8 * k.manualDefect.toNat + 4 * k.labelMismatch.toNat + 2 * k.missingMandatory.toNat
    + k.observationLost.toNat

/-- An entry of the list in an ITEM_RESULT: code and points (R147). -/
def resultEntry (e : Fin 128 × Nat) : List Byte := byteOf e.1.val :: bytes2 e.2

/-- The ITEM_RESULT payload (R147). A context without a grade sends zeros for its target, causes and score parts, and the
divert chute and tote id are 0 for the outcomes that have none. -/
def ItemResult.payload (r : ItemResult) : List Byte :=
  let ct : ChosenTarget := r.target.getD { target := { cls := .restock, first := 0, width := 1, spread := .size }, window := some 0 }
  let d : Delivery := r.delivery.getD { chute := 0, toteId := 0 }
  let outcome := match r.outcome with
    | some o => o.code
    | none => 0
  bytes4 r.orderRef.toNat
    ++ [byteOf (r.category.val * 4 + outcome),
      byteOf (r.season.val * 16 + r.size.val),
      byteOf (r.reason.val * 16 + r.laps),
      byteOf (r.tier.val * 32 + gradeCode r.grade * 4 + ct.target.spread.code * 2),
      byteOf (ct.target.cls.code * 32 + windowCode ct.window * 2),
      byteOf (ct.target.first.val * 8 + (ct.target.width - 1)),
      byteOf (r.late.toNat * 128 + r.overflow.toNat * 64 + r.exceptionRoute.toNat * 32 + r.causes.resultBits),
      byteOf (r.ageUnknown.toNat * 128 + r.weightUnchecked.toNat * 64 + r.observations.length),
      byteOf d.chute.val]
    ++ bytes2 d.toteId.toNat ++ bytes2 r.score.weight ++ bytes2 r.score.age
    ++ [byteOf r.score.tag, signedByte r.score.reason,
      byteOf (r.score.defect / 16), byteOf (r.score.defect % 16 * 16 + r.score.total / 256), byteOf r.score.total]
    ++ r.observations.flatMap resultEntry

/-! ### TOTE_RECORD and MGMT_RESULT (R147, R148) -/

/-- The TOTE_RECORD payload (R147). -/
def ToteRecord.payload (r : ToteRecord) : List Byte :=
  byteOf r.chute.val :: bytes2 r.toteId.toNat ++ [byteOf r.items] ++ bytes2 r.grams
    ++ [byteOf r.residue, byteOf r.strays, byteOf r.cause.code]

/-- The MGMT_RESULT payload (R148). -/
def MgmtResult.bytes (r : MgmtResult) : List Byte := [r.tag, r.code, byteOf r.result.code] ++ r.payload

/-! ### EVENT (R149) -/

/-- The port identifier of an event: 0 to 7 the station ports, 8 the line link, 9 the sorter port (R145). -/
def Port.identifier : Port → Nat
  | .station p => p.val
  | .line => 8
  | .sorter => 9

/-- The subject byte: a port, a chute, or 255 where the subject is the tray (R149). -/
def Advisory.subject : Advisory → Byte
  | .portEvent p _ => byteOf p.val
  | .frameRejected p _ _ => byteOf (Port.identifier p)
  | .inductRefused _ _ => 255
  | .obsDiscarded p _ _ _ => byteOf p.val
  | .queueOverrun p _ _ => byteOf p.val
  | .orderExpired _ k => byteOf k.val
  | .impliedMiss _ k => byteOf k.val
  | .unmatchedReport _ k _ => byteOf k.val
  | .strayDivert _ k _ => byteOf k.val
  | .untrackedDivert _ k => byteOf k.val
  | .exceptionUnavailable _ k => byteOf k.val
  | .chuteEvent k _ => byteOf k.val

/-- The tray an event's frame carries, 1023 where its kind concerns none (R149). -/
def Advisory.tray : Advisory → Tray
  | .portEvent _ _ => noTray
  | .frameRejected _ _ _ => noTray
  | .inductRefused t _ => t
  | .obsDiscarded _ t _ _ => t
  | .queueOverrun _ t _ => t
  | .orderExpired t _ => t
  | .impliedMiss t _ => t
  | .unmatchedReport t _ _ => t
  | .strayDivert t _ _ => t
  | .untrackedDivert t _ => t
  | .exceptionUnavailable t _ => t
  | .chuteEvent _ _ => noTray

/-- The detail bytes of a PORT_EVENT (R149). -/
def PortDetail.bytes : PortDetail → List Byte
  | .attached => [1, 0, 0, 0]
  | .probed c cap defaulted => [2, byteOf c.code, byteOf cap.code, flagByte defaulted]
  | .ready => [3, 0, 0, 0]
  | .paused => [4, 0, 0, 0]
  | .pauseForced => [5, 0, 0, 0]
  | .resumed => [6, 0, 0, 0]
  | .lost => [7, 0, 0, 0]
  | .faultMismatch announced => [8, announced, 1, 0]
  | .faultNoResume => [8, 0, 2, 0]
  | .compoundCancelled => [9, 0, 0, 0]

/-- The detail bytes of a CHUTE_EVENT (R149). -/
def ChuteDetail.bytes : ChuteDetail → List Byte
  | .opened => [1, 0, 0, 0]
  | .toteMismatch x => 2 :: bytes2 x.toNat ++ [0]
  | .swapping => [3, 0, 0, 0]
  | .closing => [4, 0, 0, 0]
  | .exhausted => [5, 0, 0, 0]
  | .unconfigured => [6, 0, 0, 0]
  | .fullIgnored => [7, 0, 0, 0]
  | .jammed => [8, 0, 0, 0]
  | .jamCleared => [9, 0, 0, 0]

/-- The code of a rejection cause (R149). -/
def rejectCode : RejectCause → Byte
  | .check => 1 | .length => 2 | .kind => 3

/-- The code of a refused induction's cause (R149). -/
def RefuseCause.code : RefuseCause → Byte
  | .noTray => 1 | .trayBusy => 2 | .tableFull => 3

/-- The code of a discarded record's cause (R149). -/
def DiscardCause.code : DiscardCause → Byte
  | .noContext => 1 | .late => 2 | .unexpectedPort => 3 | .kindNotAllowed => 4

/-- The code of an unmatched report (R149). -/
def ReportKind.code : ReportKind → Byte
  | .done => 1 | .missed => 2

/-- The four detail bytes d0 to d3 (R149). -/
def Advisory.detail : Advisory → List Byte
  | .portEvent _ d => d.bytes
  | .frameRejected _ c k => [rejectCode c, k, 0, 0]
  | .inductRefused _ c => [c.code, 0, 0, 0]
  | .obsDiscarded _ _ c k => [c.code, k.code, 0, 0]
  | .queueOverrun _ _ k => [k.code, 0, 0, 0]
  | .orderExpired _ _ => [0, 0, 0, 0]
  | .impliedMiss _ _ => [0, 0, 0, 0]
  | .unmatchedReport _ _ r => [r.code, 0, 0, 0]
  | .strayDivert _ _ none => [255, 0, 0, 0]
  | .strayDivert _ _ (some j) => [byteOf j.val, 0, 0, 0]
  | .untrackedDivert _ _ => [0, 0, 0, 0]
  | .exceptionUnavailable _ _ => [0, 0, 0, 0]
  | .chuteEvent _ d => d.bytes

/-- The EVENT payload (R149). -/
def Advisory.payload (a : Advisory) (dropped : Nat) : List Byte :=
  [byteOf (a.kind.index.val + 1), a.subject] ++ a.detail ++ [byteOf dropped]

/-! ### Whole frames -/

/-- A frame of the outbound queue as the line link sends it, with its check computed (R146, R162). -/
def OutFrame.bytes : OutFrame → List Byte
  | .item r => frameBytes 0x18 r.tray r.payload
  | .tote r => frameBytes 0x19 noTray r.payload
  | .mgmt r => frameBytes 0x1A noTray r.bytes
  | .event a dropped => frameBytes 0x1B a.tray (a.payload dropped)

/-- A frame that a station port sends (R146). -/
def StationFrame.bytes : StationFrame → List Byte
  | .probe => frameBytes 0x28 noTray []
  | .pause => frameBytes 0x29 noTray []
  | .resume => frameBytes 0x2A noTray []
  | .hold => frameBytes 0x2B noTray []
  | .release => frameBytes 0x2C noTray []

/-- An answer that the sorter port sends (R146, R147). -/
def SorterFrame.bytes : SorterFrame → List Byte
  | .divertOrder t k => frameBytes 0x38 t [byteOf k.val]
  | .recircOrder t => frameBytes 0x39 t []

end Sys2Proof.Machine
end

