-- ==== Sys2Proof/Machine/Flags.lean ====
section
/-! DEFINITION. What a record or a grading computes: the pricing and merge of a defect record (R13 to R15), the weight and tag
merges (R16 to R18), the score parts, flags and forced causes of a grading and its grade (R30 to R41), and the matcher's answer
(R66). -/

namespace Sys2Proof.Machine

/-! ### Defect records (R13 to R15) -/

/-- The zone field as taken: 3 as 2 (R13). -/
def zoneTaken (z : Fin 4) : Nat := min z.val 2

/-- The extent field as taken: 0 as 1, above 4 as 4 (R13). -/
def extentTaken (e : Fin 8) : Nat := clampTo 1 4 e.val

/-- The zone factor: 1, 2 or 4 for zone 0, 1 or 2 (R13). -/
def zoneFactor (z : Nat) : Nat := 2 ^ z

/-- The points of a defect: floor(w × zf × e / 4) (R13). -/
def defectPoints (w zone extent : Nat) : Nat := w * zoneFactor zone * extent / 4

/-- The defect set that prices a category: its valid profile's, or set 0 (R13, R49). -/
def State.defectSetOf (s : State) (category : Fin 64) : Fin 16 :=
  let p := s.profiles[category]
  if p.valid then p.defectSet else 0

/-- A defect record of port p with its zone, extent, points and manual flag (R13). -/
def State.price (s : State) (p : StationPort) (category : Fin 64) (code : Fin 128) (zone : Fin 4) (extent : Fin 8) :
    Observation :=
  let e := s.weights[s.defectSetOf category][code]
  let (z, x) := match (s.port p).capability with
    | .extended => (zoneTaken zone, extentTaken extent)
    | .basic => (s.settings.basicZone, s.settings.basicExtent)
  { code, zone := z, extent := x, points := defectPoints e.weight z x, manual := e.manual }

/-- An entry merged with a record of its own code: the greater points with their zone and extent, the manual flags ORed
(R14). -/
def Observation.merge (held new : Observation) : Observation :=
  if held.points < new.points then { new with manual := held.manual || new.manual }
  else { held with manual := held.manual || new.manual }

/-- The entry given up by a full list: of the smallest points, the one nearest the end, as its place and itself (R15). -/
def weakest : List Observation → Option (Nat × Observation)
  | [] => none
  | o :: rest =>
    match weakest rest with
    | none => some (0, o)
    | some (i, w) => if w.points ≤ o.points then some (i + 1, w) else some (0, o)

/-- A priced defect record merged into a context's observation list (R14, R15). -/
def Context.mergeDefect (c : Context) (o : Observation) : Context :=
  if c.observations.any (fun h => h.code == o.code) then
    { c with observations := c.observations.map (fun h => if h.code == o.code then h.merge o else h) }
  else if c.observations.length < Config.observationCapacity then { c with observations := c.observations ++ [o] }
  else
    match weakest c.observations with
    | some (i, w) =>
      if w.points < o.points then
        { c with observations := c.observations.set i o, overflow := true, manualDropped := c.manualDropped || w.manual }
      else { c with overflow := true, manualDropped := c.manualDropped || o.manual }
    | none => c

/-! ### Weight and tag records (R16 to R18) -/

/-- The distance of two weights. -/
def deviation (a b : Nat) : Nat := (a - b) + (b - a)

/-- The measured grams kept of a held value and a new one (R17). -/
def weightKept (catalogue : Nat) (held : Option Nat) (new : Nat) : Nat :=
  match held with
  | none => new
  | some h =>
    if catalogue = 0 then (if h < new then new else h)
    else if deviation h catalogue < deviation new catalogue then new else h

/-- A weight record merged, clamped to 20,000 g before use (R16, R17). -/
def Context.mergeWeight (c : Context) (grams : BitVec 16) : Context :=
  { c with measured := some (weightKept c.catalogue c.measured (min Config.gramsMax grams.toNat)) }

/-- A tag record merged (R18). -/
def Context.mergeTag (c : Context) (present mismatch : Bool) : Context :=
  { c with tags := some (present && c.tags.getD true), mismatch := c.mismatch || mismatch }

/-! ### The ten stages of a grading (chapter 2) -/

/-- Stage 2: the defect sum, saturating at 4095 (R31). -/
def defectSum (os : List Observation) : Nat := min Config.scoreMax ((os.map Observation.points).sum)

/-- Stage 3: the deviation in whole percent, capped at 999 (R33). -/
def weightDeviation (measured catalogue : Nat) : Nat := min 999 (deviation measured catalogue * 100 / catalogue)

/-- Stage 3: the weight penalty (R33). -/
def weightPenalty (measured : Option Nat) (catalogue tolerance : Nat) : Nat :=
  match measured with
  | none => 0
  | some m => if catalogue = 0 then 0 else min 400 ((weightDeviation m catalogue - tolerance) * 8)

/-- Stage 3: the WEIGHT_UNCHECKED flag (R33). -/
def weightUncheckedFlag (measured : Option Nat) (catalogue : Nat) : Bool := measured.isNone || catalogue == 0

/-- Stage 4: the AGE_UNKNOWN flag (R34). -/
def ageUnknownFlag (days : Fin 1024) : Bool := days == 1023

/-- Stage 4: the age penalty; the division rounds up (R34). -/
def agePenalty (days : Fin 1024) (allowance rate cap : Nat) : Nat :=
  if ageUnknownFlag days then 0 else min cap ((days.val - allowance + 9) / 10 * rate)

/-- Stage 5: the tag penalty, charged when tags are required and tags present is no (R35). -/
def tagPenalty (required : Bool) (points : Nat) (tags : Option Bool) : Nat :=
  if required && tags == some false then points else 0

/-- Stage 7: the total, clamped to 0 to 4095 (R38). -/
def totalOf (d w a t : Nat) (r : Int) : Nat := min Config.scoreMax (((d + w + a + t : Nat) : Int) + r).toNat

/-- Stages 2 to 7 on a profile in force (R31 to R38). -/
def scoreOf (p : Profile) (reason : Int) (c : Context) : ScoreParts :=
  let d := defectSum c.observations
  let w := weightPenalty c.measured c.catalogue p.tolerance
  let a := agePenalty c.days p.allowance p.rate p.cap
  let t := tagPenalty p.tagsRequired p.tagPoints c.tags
  { defect := d, weight := w, age := a, tag := t, reason, total := totalOf d w a t reason }

/-- A mandatory class has no port of that class among the reported ports (R39). -/
def missingMandatory (mandatory : BitVec 4) (classes : Vector StationClass 8) (reported : PortSet) : Bool :=
  [StationClass.label, .vision, .scale, .bench].any (fun k =>
    mandatory.getLsbD k.code && !(List.finRange 8).any (fun p => portIn p reported && classes[p] == k))

/-- The forced causes, each tested in every grading (2.9). -/
def causesOf (p : Profile) (classes : Vector StationClass 8) (c : Context) : Causes where
  noProfile := !p.valid
  manualDefect := c.observations.any Observation.manual || c.manualDropped
  labelMismatch := c.mismatch
  missingMandatory := missingMandatory p.mandatory classes c.reported
  observationLost := c.lost != 0

/-- Some cause is forced. -/
def Causes.any (k : Causes) : Bool :=
  k.noProfile || k.manualDefect || k.labelMismatch || k.missingMandatory || k.observationLost

/-- Stage 9: the grade (R41). -/
def gradeFor (p : Profile) (causes : Causes) (total : Nat) : Grade :=
  if causes.any then .m
  else if total ≤ p.tA then .a
  else if total ≤ p.tB then .b
  else if total ≤ p.tC then .c
  else if total ≤ p.tD then .d
  else .z

/-- A window matches an item (R66). -/
def Window.accepts (w : Window) (c : Context) : Bool :=
  w.enabled && (w.category == none || w.category == some c.category) && w.tiers.getLsbD c.tier.val
    && (w.lo ≤ c.season && c.season ≤ w.hi) && w.reasons.getLsbD c.reason.val

/-- Stage 10: the target of the first window of the grade that matches, or the grade's default (R66). -/
def State.chooseTarget (s : State) (g : Grade) (c : Context) : ChosenTarget :=
  match (List.finRange 8).find? (fun i => s.windows[g.index][i].accepts c) with
  | some i => { target := s.windows[g.index][i].target, window := some i }
  | none => { target := s.defaults[g.index], window := none }

/-- The profile in force: the category's if valid, else the zero profile (R30). -/
def State.profileInForce (s : State) (category : Fin 64) : Profile :=
  let p := s.profiles[category]
  if p.valid then p else {}

/-- A context with everything that a grading completion writes into it (R43). -/
def State.gradedContext (s : State) (classes : Vector StationClass 8) (c : Context) : Context :=
  let p := s.profileInForce c.category
  let score := scoreOf p s.reasons[c.reason].toInt c
  let causes := causesOf p classes c
  let g := gradeFor p causes score.total
  { c with state := .graded, score, causes, grade := some g, target := some (s.chooseTarget g c),
           ageUnknown := ageUnknownFlag c.days, weightUnchecked := weightUncheckedFlag c.measured c.catalogue }

end Sys2Proof.Machine
end

