-- ==== Sys2Proof/Machine/Intake.lean ====
section
/-! DEFINITION. Induction (1.6) and the taking of observation records from the ports' queues (1.7). -/

namespace Sys2Proof.Machine

/-! ### INDUCT -/

/-- The lowest-numbered FREE slot (R6). -/
def State.freeSlot (s : State) : Option ContextIndex := allContexts.find? (fun i => (s.context i).state = .free)

/-- The context that an induction opens, expecting the ports given (1.1, R6, R7). -/
def openedContext (t : Tray) (f : InductItem) (expected : PortSet) : Context :=
  { state := .opened, tray := t, category := f.category, tier := f.tier, season := f.season, size := f.size,
    reason := f.reason, days := f.days, catalogue := min Config.gramsMax f.catalogue.toNat, orderRef := f.orderRef, expected }

/-- A context opens in slot i for tray t; with no port READY it seals at once (R6, R11). -/
def State.openContext (s : State) (i : ContextIndex) (t : Tray) (f : InductItem) : State :=
  let ready := s.readyPorts
  let s1 := (s.modContext i (fun _ => openedContext t f ready)).setMap t (some i)
  if ready = 0 then s1.seal i else s1

/-- INDUCT: refused NO_TRAY, TRAY_BUSY or TABLE_FULL in that order of tests (R7, R9, R10), or opens a context, after
closing the tray's earlier one REPLACED (R6, R8). The free slot is chosen before the old context closes. -/
def induct (t : Tray) (f : InductItem) (s : State) : State :=
  if t = noTray then s.offerEvent (.inductRefused t .noTray)
  else
    match s.lookup t with
    | none =>
      match s.freeSlot with
      | none => s.offerEvent (.inductRefused t .tableFull)
      | some j => s.openContext j t f
    | some i =>
      if (s.context i).state = .grading ∨ (s.context i).state = .ordered then s.offerEvent (.inductRefused t .trayBusy)
      else
        match s.freeSlot with
        | none => s.offerEvent (.inductRefused t .tableFull)
        | some j => (s.closeContext i .replaced none).openContext j t f

/-- INDUCT (R6). -/
def execInduct (t : Tray) (f : InductItem) (s : State) : Host.Outcome State Fault Refusal := .next (induct t f s)

/-! ### Taking records -/

/-- The record kinds that a station class allows (R12). -/
def StationClass.allows (k : StationClass) (r : RecordKind) : Bool :=
  match k, r with
  | _, .itemDone => true
  | .label, .tag | .label, .defect => true
  | .vision, .defect => true
  | .scale, .weight => true
  | .bench, .defect | .bench, .tag => true
  | _, _ => false

/-- The routing tests of R12, in order: why a record of port p for tray t is discarded, or the context it is merged into. They
are the only tests of the steps that take a record (95:142); the discards that R186 lists are their outcomes for every context
that the port was withdrawn from or that opened meanwhile, and log entry 21 names the one context for which they are not. -/
def State.routeRecord (s : State) (p : StationPort) (t : Tray) (k : RecordKind) : DiscardCause ⊕ ContextIndex :=
  match s.lookup t with
  | none => .inl .noContext
  | some i =>
    if (s.context i).state ≠ .opened then .inl .late
    else if !portIn p (s.context i).expected then .inl .unexpectedPort
    else if !(s.port p).detectedClass.allows k then .inl .kindNotAllowed
    else .inr i

/-- RELEASE is sent after a leave that finds the count at or below the threshold less 4 with HOLD set (R141). -/
def State.releaseTest (s : State) (p : StationPort) : State :=
  if (s.port p).hold && (s.port p).inbound.length + 4 ≤ s.settings.holdThreshold then
    (s.modPort p (fun P => { P with hold := false })).sendStation p .release
  else s

/-- A record of port p for tray t is routed and, if it passes, merged by `merge` (R12). -/
def State.routeAndMerge (s : State) (p : StationPort) (r : ObsRecord) (merge : State → ContextIndex → State) : State :=
  match s.routeRecord p r.tray r.body.kind with
  | .inl .late =>
    (s.forContext (s.lookup r.tray) (fun u i => u.modContext i (fun c => { c with late := true }))).offerEvent
      (.obsDiscarded p r.tray .late r.body.kind)
  | .inl cause => s.offerEvent (.obsDiscarded p r.tray cause r.body.kind)
  | .inr i => merge s i

/-- The item context table takes the head of port p's queue, if it is a record of kind k: the record leaves the queue, the
RELEASE test is made, and the record is routed (R12, R140, R141). -/
def State.takeRecord (s : State) (p : StationPort) (k : RecordKind) (merge : RecordBody → State → ContextIndex → State) :
    State :=
  match (s.port p).inbound with
  | [] => s
  | r :: rest =>
    if r.body.kind = k then
      ((s.modPort p (fun P => { P with inbound := rest })).releaseTest p).routeAndMerge p r (merge r.body)
    else s

/-- A DEFECT record is priced and merged (R13 to R15). -/
def mergeDefectRecord (p : StationPort) (b : RecordBody) (s : State) (i : ContextIndex) : State :=
  match b with
  | .defect code zone extent =>
    s.modContext i (fun c => c.mergeDefect (s.price p c.category code zone extent))
  | _ => s

/-- A TAG record is merged (R18). -/
def mergeTagRecord (b : RecordBody) (s : State) (i : ContextIndex) : State :=
  match b with
  | .tag present mismatch => s.modContext i (fun c => c.mergeTag present mismatch)
  | _ => s

/-- A WEIGHT record is merged (R16, R17). -/
def mergeWeightRecord (b : RecordBody) (s : State) (i : ContextIndex) : State :=
  match b with
  | .weight grams => s.modContext i (fun c => c.mergeWeight grams)
  | _ => s

/-- An ITEM_DONE record adds its port to the reported ports, and seals the context when every expected port is reported
(R19, R20). -/
def mergeItemDone (p : StationPort) (_b : RecordBody) (s : State) (i : ContextIndex) : State :=
  let s1 := s.modContext i (fun c => { c with reported := portInsert p c.reported })
  if portSubset (s1.context i).expected (s1.context i).reported then s1.seal i else s1

/-- TAKE_DEFECT_RECORD (R13). -/
def execTakeDefectRecord (p : StationPort) (s : State) : Host.Outcome State Fault Refusal :=
  .next (s.takeRecord p .defect (mergeDefectRecord p))

/-- TAKE_TAG_RECORD (R18). -/
def execTakeTagRecord (p : StationPort) (s : State) : Host.Outcome State Fault Refusal :=
  .next (s.takeRecord p .tag mergeTagRecord)

/-- TAKE_WEIGHT_RECORD (R17). -/
def execTakeWeightRecord (p : StationPort) (s : State) : Host.Outcome State Fault Refusal :=
  .next (s.takeRecord p .weight mergeWeightRecord)

/-- TAKE_ITEM_DONE_RECORD (R19). -/
def execTakeItemDoneRecord (p : StationPort) (s : State) : Host.Outcome State Fault Refusal :=
  .next (s.takeRecord p .itemDone (mergeItemDone p))

end Sys2Proof.Machine
end

