-- ==== Sys2Proof/Machine/Ports.lean ====
section
/-! DEFINITION. The station port controller (chapter 7): PORT_CONFIG, the seven Go targets, the station frames and the port
timers' running out. -/

namespace Sys2Proof.Machine

/-- Offer a PORT_EVENT (7.9). -/
def State.portEvent (s : State) (p : StationPort) (d : PortDetail) : State := s.offerEvent (.portEvent p d)

/-! ### PORT_CONFIG (R127) -/

/-- PORT_CONFIG's execution. -/
def portConfigAct (params : List Byte) (s : State) : State × Reply :=
  match parsePortConfig params with
  | none => refuse s .badParam
  | some (p, c) =>
    if (s.port p).state = .detached then
      (s.modPort p (fun P => { P with expectedClass := c }), .done .ok [byteOf p.val, byteOf c.code])
    else refuse s .refusedState

/-- PORT_CONFIG (R127). -/
def execPortConfig (tag : Byte) (params : List Byte) (s : State) : Host.Outcome State Fault Refusal :=
  .next (s.runCommand tag 0x02 params (portConfigAct params))

/-! ### Go targets (R128 to R130) -/

/-- The port waits for an answer, or its compound runs, so that only GoDetach may move it (R128). -/
def PortRecord.steered (P : PortRecord) : Bool :=
  P.compound || P.state = .probing || P.state = .pausing || P.state = .resuming

/-- PROBE is sent and the probe window starts (R126, R128). -/
def State.startProbe (s : State) (p : StationPort) : State :=
  (s.modPort p (fun P => { P with state := .probing, timer := some Config.probeWindow })).sendStation p .probe

/-- GoDetach: to DETACHED from any state (R129). Frames that wait behind the one being sent are not sent (log entry 4). -/
def State.detach (s : State) (p : StationPort) : State :=
  let P := s.port p
  if P.state = .detached then s
  else
    let s2 := (s.dropStationTx p).modPort p (fun P => { P with
      state := .detached, timer := none, compound := false, faultCause := none, hold := false })
    let s3 := if P.compound then s2.portEvent p .compoundCancelled else s2
    if P.state = .ready ∨ P.state = .pausing then s3.withdraw p else s3

/-- A DETACHED or FAULT port goes to LISTENING with fault cause none and HOLD clear (R128, R141). -/
def PortRecord.listen (P : PortRecord) : PortRecord :=
  { P with state := .listening, faultCause := none, timer := none, hold := false }

/-- The immediate effect of a Go target on a port whose state allows it, none where the state does not (R128, R130). -/
def State.goListenStep (s : State) (p : StationPort) : Option State :=
  match (s.port p).state with
  | .detached | .fault => some (s.modPort p PortRecord.listen)
  | _ => none

/-- GoProbe's immediate effect (R128). -/
def State.goProbeStep (s : State) (p : StationPort) : Option State :=
  match (s.port p).state with
  | .attached | .probed => some (s.startProbe p)
  | _ => none

/-- GoReady's immediate effect (R128). -/
def State.goReadyStep (s : State) (p : StationPort) : Option State :=
  match (s.port p).state with
  | .probed => some (s.modPort p (fun P => { P with state := .ready }))
  | _ => none

/-- GoPause's immediate effect (R128). -/
def State.goPauseStep (s : State) (p : StationPort) : Option State :=
  match (s.port p).state with
  | .ready =>
    some ((s.modPort p (fun P => { P with state := .pausing, timer := some Config.pauseTimeout })).sendStation p .pause)
  | _ => none

/-- GoResume's immediate effect (R128). -/
def State.goResumeStep (s : State) (p : StationPort) : Option State :=
  match (s.port p).state with
  | .paused =>
    some ((s.modPort p (fun P => { P with state := .resuming, timer := some Config.resumeTimeout })).sendStation p .resume)
  | _ => none

/-- GoListenToReady's first step, which sets the compound-pending flag (R130). -/
def State.goCompoundStep (s : State) (p : StationPort) : Option State :=
  let s1 := s.modPort p (fun P => { P with compound := true })
  match (s.port p).state with
  | .detached | .fault => some (s1.modPort p PortRecord.listen)
  | .listening => some s1
  | .attached => some (s1.startProbe p)
  | _ => none

/-- The result payload of a PORT_GO: port, target, port state after the immediate effect (R176). -/
def State.goPayload (s : State) (p : StationPort) (target : Nat) : List Byte :=
  [byteOf p.val, byteOf target, byteOf (s.port p).state.code]

/-- A PORT_GO with a target other than GoDetach (R128). -/
def goAct (target : Nat) (params : List Byte) (effect : State → StationPort → Option State) (s : State) : State × Reply :=
  match parseGo target params with
  | none => refuse s .badParam
  | some p =>
    if (s.port p).steered then refuse s .refusedState
    else
      match effect s p with
      | some t => (t, .done .ok (t.goPayload p target))
      | none => refuse s .refusedState

/-- A PORT_GO GoDetach (R129). -/
def goDetachAct (params : List Byte) (s : State) : State × Reply :=
  match parseGo 0 params with
  | none => refuse s .badParam
  | some p => let t := s.detach p; (t, .done .ok (t.goPayload p 0))

/-- GO_DETACH (R129). -/
def execGoDetach (tag : Byte) (params : List Byte) (s : State) : Host.Outcome State Fault Refusal :=
  .next (s.runCommand tag 0x03 params (goDetachAct params))

/-- GO_LISTEN (R128). -/
def execGoListen (tag : Byte) (params : List Byte) (s : State) : Host.Outcome State Fault Refusal :=
  .next (s.runCommand tag 0x03 params (goAct 1 params State.goListenStep))

/-- GO_PROBE (R128). -/
def execGoProbe (tag : Byte) (params : List Byte) (s : State) : Host.Outcome State Fault Refusal :=
  .next (s.runCommand tag 0x03 params (goAct 2 params State.goProbeStep))

/-- GO_READY (R128). -/
def execGoReady (tag : Byte) (params : List Byte) (s : State) : Host.Outcome State Fault Refusal :=
  .next (s.runCommand tag 0x03 params (goAct 3 params State.goReadyStep))

/-- GO_PAUSE (R128). -/
def execGoPause (tag : Byte) (params : List Byte) (s : State) : Host.Outcome State Fault Refusal :=
  .next (s.runCommand tag 0x03 params (goAct 4 params State.goPauseStep))

/-- GO_RESUME (R128). -/
def execGoResume (tag : Byte) (params : List Byte) (s : State) : Host.Outcome State Fault Refusal :=
  .next (s.runCommand tag 0x03 params (goAct 5 params State.goResumeStep))

/-- GO_LISTEN_TO_READY (R130). -/
def execGoListenToReady (tag : Byte) (params : List Byte) (s : State) : Host.Outcome State Fault Refusal :=
  .next (s.runCommand tag 0x03 params (goAct 6 params State.goCompoundStep))

/-! ### Station frames (R131) -/

/-- The first valid frame in LISTENING attaches the port, and the compound sends PROBE at once (R131). -/
def State.attach (s : State) (p : StationPort) : State :=
  let s1 := (s.modPort p (fun P => { P with state := .attached })).portEvent p .attached
  if (s.port p).compound then s1.startProbe p else s1

/-- HOLD is sent after a join that finds the count at or above the threshold with HOLD clear (R141). -/
def State.holdTest (s : State) (p : StationPort) : State :=
  if s.settings.holdThreshold ≤ (s.port p).inbound.length && !(s.port p).hold then
    (s.modPort p (fun P => { P with hold := true })).sendStation p .hold
  else s

/-- The item context table's part of an overrun: port p joins the lost ports of tray t's context, if that is OPEN and expects
p (R23). -/
def State.losePort (s : State) (p : StationPort) (t : Tray) : State :=
  s.forContext (s.lookup t) (fun u i => u.modContext i (fun c =>
    if c.state = .opened ∧ portIn p c.expected = true then { c with lost := portInsert p c.lost } else c))

/-- A queued frame joins the port's inbound queue, or overruns a full one (R140). -/
def State.joinQueue (s : State) (p : StationPort) (r : ObsRecord) : State :=
  if (s.port p).inbound.length < Config.inboundCapacity then
    (s.modPort p (fun P => { P with inbound := P.inbound ++ [r] })).holdTest p
  else (s.offerEvent (.queueOverrun p r.tray r.body.kind)).losePort p r.tray

/-- A valid frame is taken by the port's state: none by DETACHED, an attach by LISTENING, else `taken` (R131). -/
def State.stationFrame (s : State) (p : StationPort) (taken : State) : State :=
  match (s.port p).state with
  | .detached => s
  | .listening => s.attach p
  | _ => taken

/-- The end of a probe: PROBED with its class and capability, and on to READY where the compound is pending (R130, R132,
R134). -/
def State.endProbe (s : State) (p : StationPort) (c : StationClass) (cap : Capability) (defaulted : Bool) : State :=
  let s1 := (s.modPort p (fun P => { P with
    state := .probed, timer := none, detectedClass := c, capability := cap })).portEvent p (.probed c cap defaulted)
  if (s.port p).compound then (s1.modPort p (fun P => { P with state := .ready, compound := false })).portEvent p .ready
  else s1

/-- A port enters FAULT, offers its event and is withdrawn; the compound ends (R130, R138, R139). -/
def State.enterFault (s : State) (p : StationPort) (f : FaultCause) (d : PortDetail) : State :=
  ((s.modPort p (fun P => { P with state := .fault, timer := none, compound := false, faultCause := some f })).portEvent p
    d).withdraw p

/-- The capability of an announced code: one that names neither is BASIC (R132). -/
def announcedCapability (b : Byte) : Capability := if b = 1 then .extended else .basic

/-- An ANNOUNCE taken in PROBING; in the other states it is ignored (R131, R132). -/
def State.takeAnnounce (s : State) (p : StationPort) (cls cap : Byte) : State :=
  if (s.port p).state = .probing then
    if classOf cls = some (s.port p).expectedClass then
      s.endProbe p (s.port p).expectedClass (announcedCapability cap) false
    else s.enterFault p .classMismatch (.faultMismatch cls)
  else s

/-- The end of a pause: PAUSED, the event, and the withdrawal (R135). -/
def State.endPause (s : State) (p : StationPort) (d : PortDetail) : State :=
  ((s.modPort p (fun P => { P with state := .paused, timer := none })).portEvent p d).withdraw p

/-- A PAUSE_ACK taken in PAUSING; in the other states it is ignored (R131, R135). -/
def State.takePauseAck (s : State) (p : StationPort) : State :=
  if (s.port p).state = .pausing then s.endPause p .paused else s

/-- A RESUME_ACK taken in RESUMING; in the other states it is ignored (R131, R136). -/
def State.takeResumeAck (s : State) (p : StationPort) : State :=
  if (s.port p).state = .resuming then
    (s.modPort p (fun P => { P with state := .ready, timer := none })).portEvent p .resumed
  else s

/-- OBS_DEFECT (R140). -/
def execObsDefect (p : StationPort) (t : Tray) (code : Fin 128) (zone : Fin 4) (extent : Fin 8) (s : State) :
    Host.Outcome State Fault Refusal :=
  .next (s.stationFrame p (s.joinQueue p { tray := t, body := .defect code zone extent }))

/-- OBS_TAG (R140). -/
def execObsTag (p : StationPort) (t : Tray) (present mismatch : Bool) (s : State) : Host.Outcome State Fault Refusal :=
  .next (s.stationFrame p (s.joinQueue p { tray := t, body := .tag present mismatch }))

/-- OBS_WEIGHT (R140). -/
def execObsWeight (p : StationPort) (t : Tray) (grams : BitVec 16) (s : State) : Host.Outcome State Fault Refusal :=
  .next (s.stationFrame p (s.joinQueue p { tray := t, body := .weight grams }))

/-- ITEM_DONE (R140). -/
def execItemDone (p : StationPort) (t : Tray) (s : State) : Host.Outcome State Fault Refusal :=
  .next (s.stationFrame p (s.joinQueue p { tray := t, body := .itemDone }))

/-- ANNOUNCE (R132). -/
def execAnnounce (p : StationPort) (cls cap : Byte) (s : State) : Host.Outcome State Fault Refusal :=
  .next (s.stationFrame p (s.takeAnnounce p cls cap))

/-- PAUSE_ACK (R135). -/
def execPauseAck (p : StationPort) (s : State) : Host.Outcome State Fault Refusal :=
  .next (s.stationFrame p (s.takePauseAck p))

/-- RESUME_ACK (R136). -/
def execResumeAck (p : StationPort) (s : State) : Host.Outcome State Fault Refusal :=
  .next (s.stationFrame p (s.takeResumeAck p))

/-- IDLE (R154): outside LISTENING it is taken with no effect. -/
def execIdle (p : StationPort) (s : State) : Host.Outcome State Fault Refusal := .next (s.stationFrame p s)

/-! ### Port timers (R126) -/

/-- The timer of port p has run out in state st: started there and with no time left (R126). -/
def PortRecord.ranOut (P : PortRecord) (st : PortState) : Bool := P.state = st && P.timer = some 0

/-- PROBE_WINDOW_EXPIRY (R134): with time left, or in another state, the window does not run out. -/
def execProbeWindowExpiry (p : StationPort) (s : State) : Host.Outcome State Fault Refusal :=
  .next (if (s.port p).ranOut .probing then s.endProbe p (s.port p).expectedClass .basic true else s)

/-- PAUSE_TIMEOUT (R135): with time left, or in another state, the timer does not run out. -/
def execPauseTimeout (p : StationPort) (s : State) : Host.Outcome State Fault Refusal :=
  .next (if (s.port p).ranOut .pausing then s.endPause p .pauseForced else s)

/-- RESUME_TIMEOUT (R136): with time left, or in another state, the timer does not run out. -/
def execResumeTimeout (p : StationPort) (s : State) : Host.Outcome State Fault Refusal :=
  .next (if (s.port p).ranOut .resuming then s.enterFault p .noResume .faultNoResume else s)

/-! ### Loss of carrier (R137) -/

/-- A station port takes its link going DOWN by its state (R137). -/
def State.losePortLink (s : State) (p : StationPort) : State :=
  let P := s.port p
  match P.state with
  | .detached | .listening | .fault => s
  | _ =>
    let s1 := (s.modPort p (fun P => { P with state := .listening, timer := none, hold := false, compound := false
      })).portEvent p .lost
    let s2 := if P.compound then s1.portEvent p .compoundCancelled else s1
    if P.state = .ready ∨ P.state = .pausing then s2.withdraw p else s2

end Sys2Proof.Machine
end

