-- ==== Sys2Proof/Machine/Links.lean ====
section
/-! DEFINITION. The link layer: rejected frames (R145), transmission (R152, R153), link states (R150), and power-on reset
(R156). -/

namespace Sys2Proof.Machine

/-! ### Rejected frames -/

/-- The port checks the frames it receives: every port but a DETACHED station port (R145). No frame arrives at the sorter port
while its link is DOWN (R150). -/
def State.checksFrames (s : State) : Port → Bool
  | .station p => (s.port p).state ≠ .detached
  | .line => true
  | .sorter => s.sorterLink = .up

/-- FRAME_REJECTED: a frame that fails a test at a port that checks frames offers the event and changes nothing else (R131,
R145). A frame that passes the tests is not rejected. -/
def execFrameRejected (port : Port) (bytes : List Byte) (s : State) : Host.Outcome State Fault Refusal :=
  .next (match frameVerdict port bytes with
    | some (cause, kind) => if s.checksFrames port then s.offerEvent (.frameRejected port cause kind) else s
    | none => s)

/-! ### Transmission -/

/-- ENTRY_SENT: the last byte of the head entry has been sent, the entry leaves, and one waiting record is admitted in the same
step (R153, R162, R164). While the link is DOWN or the queue is empty no entry is being sent. -/
def execEntrySent (s : State) : Host.Outcome State Fault Refusal :=
  .next (match s.lineLink, s.outbound with
    | .up, _ :: rest => { s with outbound := rest, lineFinishing := none }.admitWaiting
    | _, _ => s)

/-- PORT_FRAME_SENT: the frame that has waited longest at a station port or the sorter port has been sent (R152). -/
def execPortFrameSent (port : TxPort) (s : State) : Host.Outcome State Fault Refusal :=
  .next (match port with
    | .station p => { s with stationTx := s.stationTx.set p s.stationTx[p].tail }
    | .sorter => { s with sorterTx := s.sorterTx.tail })

/-! ### Link states (R150) -/

/-- LINK_UP: no effect beyond the link's state (R150). -/
def execLinkUp (port : Port) (s : State) : Host.Outcome State Fault Refusal :=
  .next (match port with
    | .station p => { s with stationLinks := s.stationLinks.set p .up }
    | .line => { s with lineLink := .up }
    | .sorter => { s with sorterLink := .up })

/-- LINK_DOWN: the link is DOWN, frames waiting to be sent on its port are discarded, and a station port takes it by its state
(R137, R150). The outbound queue is kept, and the entry being sent stays at its head (R153). -/
def execLinkDown (port : Port) (s : State) : Host.Outcome State Fault Refusal :=
  .next (match port with
    | .station p =>
      { s with stationLinks := s.stationLinks.set p .down, stationTx := s.stationTx.set p [] }.losePortLink p
    | .line => { s with lineLink := .down, lineFinishing := none }
    | .sorter => { s with sorterLink := .down, sorterTx := [] })

/-! ### Power-on reset -/

/-- POWER_ON_RESET: every piece of state takes its power-on value (R156). The commands that wait are the sender's and stay. -/
def execPowerOnReset (s : State) : Host.Outcome State Fault Refusal := .next { State.reset with pending := s.pending }

end Sys2Proof.Machine
end

