-- ==== Sys2Proof/Machine/Tables.lean ====
section
/-! DEFINITION. The table-writing commands (R54) and the grading unit's start and completion (chapter 2). -/

namespace Sys2Proof.Machine

/-! ### Table writes -/

/-- The execution of a table-writing command whose parameters parse to `change`: refused BAD_PARAM, or written at once when
no grading is in flight, or waiting (R54). -/
def writeAct (change : Option TableChange) (s : State) : State × Reply :=
  match change with
  | none => refuse s .badParam
  | some w =>
    match s.inFlight with
    | none => (s.writeTable w, .done .ok w.payload)
    | some _ => (s, .wait)

/-- WRITE_WEIGHTS (R56, R57). -/
def execWriteWeights (tag : Byte) (params : List Byte) (s : State) : Host.Outcome State Fault Refusal :=
  .next (s.runCommand tag 0x04 params (writeAct (parseWriteWeights params)))

/-- WRITE_PROFILE (R58, R59). -/
def execWriteProfile (tag : Byte) (params : List Byte) (s : State) : Host.Outcome State Fault Refusal :=
  .next (s.runCommand tag 0x05 params (writeAct (parseWriteProfile params)))

/-- WRITE_REASONS (R60). -/
def execWriteReasons (tag : Byte) (params : List Byte) (s : State) : Host.Outcome State Fault Refusal :=
  .next (s.runCommand tag 0x06 params (writeAct (parseWriteReasons params)))

/-- WRITE_WINDOW (R70, R71). -/
def execWriteWindow (tag : Byte) (params : List Byte) (s : State) : Host.Outcome State Fault Refusal :=
  .next (s.runCommand tag 0x07 params (writeAct (parseWriteWindow params)))

/-- WRITE_DEFAULT (R72). -/
def execWriteDefault (tag : Byte) (params : List Byte) (s : State) : Host.Outcome State Fault Refusal :=
  .next (s.runCommand tag 0x08 params (writeAct (parseWriteDefault params)))

/-- The table write that waits in its execution phase, with the command that carries it (R54). -/
def State.waitingWrite (s : State) : Option (Command × TableChange) :=
  match s.command with
  | some c => if c.phase = .execution then (parseTableChange c.code c.params).map (fun w => (c, w)) else none
  | none => none

/-- The waiting write is taken: it writes in one step, and its result is offered (R54, R171). -/
def State.takeWrite (s : State) : State :=
  match s.waitingWrite with
  | some (c, w) => (s.writeTable w).finish c.tag c.code c.params .ok w.payload
  | none => s

/-- TABLE_WRITE: with no grading in flight a waiting write is taken, and then a grading starts if the queue is non-empty (R27,
R54). While a grading is in flight, or with no write waiting, no write is taken. -/
def execTableWrite (s : State) : Host.Outcome State Fault Refusal :=
  .next (if s.inFlight.isNone && s.waitingWrite.isSome then s.takeWrite.startGrading else s)

/-! ### Gradings -/

/-- GRADING_START: the idle unit takes the head of a non-empty queue (R27). -/
def execGradingStart (s : State) : Host.Outcome State Fault Refusal := .next s.startGrading

/-- The completion request for context i graded with the classes given (R4, R43). A context marked for abandon closes ABANDONED
with nothing written, and the ABANDON_TRAY that waits for it ends OK (R25, R46). -/
def State.completeContext (s : State) (i : ContextIndex) (classes : Vector StationClass 8) : State :=
  let c := s.context i
  if c.abandonMark then
    let s1 := s.closeContext i .abandoned none
    match s1.command with
    | some { tag, code, params, phase := .execution } =>
      if code = 0x0C then s1.finish tag code params .ok (bytes2 c.tray.val) else s1
    | _ => s1
  else s.modContext i (s.gradedContext classes)

/-- What follows a completion: a waiting write is taken where the queue is empty; where it is not, the write and the next
start are both possible and are their own commands (R45, R54; log entry 2); with no write waiting the next grading starts (R27).
DESIGN CHOICE: where the queue is emptied before either is taken, the write goes on waiting for TABLE_WRITE, and a context that
seals meanwhile starts its grading ahead of it (log entry 22). -/
def State.handOver (s : State) : State :=
  if s.waitingWrite.isSome then (if s.gradingQueue.isEmpty then s.takeWrite else s) else s.startGrading

/-- GRADING_COMPLETION (R43): the unit becomes idle in the same step. With no grading in flight none completes. -/
def execGradingCompletion (s : State) : Host.Outcome State Fault Refusal :=
  .next (match s.inFlight with
    | none => s
    | some g => ({ s with inFlight := none }.completeContext g.context g.classes).handOver)

end Sys2Proof.Machine
end

