-- ==== Sys2Proof/Machine/Dispatch.lean ====
section
/-! DEFINITION. The dispatch of commands to their meanings, one arm for each constructor of Instr. -/

namespace Sys2Proof.Machine

def exec (i : Instr) (s : State) : Host.Outcome State Fault Refusal :=
  match i with
  | .induct tray item => Sys2Proof.Machine.execInduct tray item s
  | .configure tag params => Sys2Proof.Machine.execConfigure tag params s
  | .portConfig tag params => Sys2Proof.Machine.execPortConfig tag params s
  | .goDetach tag params => Sys2Proof.Machine.execGoDetach tag params s
  | .goListen tag params => Sys2Proof.Machine.execGoListen tag params s
  | .goProbe tag params => Sys2Proof.Machine.execGoProbe tag params s
  | .goReady tag params => Sys2Proof.Machine.execGoReady tag params s
  | .goPause tag params => Sys2Proof.Machine.execGoPause tag params s
  | .goResume tag params => Sys2Proof.Machine.execGoResume tag params s
  | .goListenToReady tag params => Sys2Proof.Machine.execGoListenToReady tag params s
  | .writeWeights tag params => Sys2Proof.Machine.execWriteWeights tag params s
  | .writeProfile tag params => Sys2Proof.Machine.execWriteProfile tag params s
  | .writeReasons tag params => Sys2Proof.Machine.execWriteReasons tag params s
  | .writeWindow tag params => Sys2Proof.Machine.execWriteWindow tag params s
  | .writeDefault tag params => Sys2Proof.Machine.execWriteDefault tag params s
  | .tableWrite => Sys2Proof.Machine.execTableWrite s
  | .chainLoad tag params => Sys2Proof.Machine.execChainLoad tag params s
  | .chainClear tag params => Sys2Proof.Machine.execChainClear tag params s
  | .enable tag params => Sys2Proof.Machine.execEnable tag params s
  | .disable tag params => Sys2Proof.Machine.execDisable tag params s
  | .closeNow tag params => Sys2Proof.Machine.execCloseNow tag params s
  | .advance tag params => Sys2Proof.Machine.execAdvance tag params s
  | .abandonTray tag params => Sys2Proof.Machine.execAbandonTray tag params s
  | .readContext tag params => Sys2Proof.Machine.execReadContext tag params s
  | .readChute tag params => Sys2Proof.Machine.execReadChute tag params s
  | .readTable tag params => Sys2Proof.Machine.execReadTable tag params s
  | .readStatus tag params => Sys2Proof.Machine.execReadStatus tag params s
  | .eventRoute tag params => Sys2Proof.Machine.execEventRoute tag params s
  | .ackAttention tag params => Sys2Proof.Machine.execAckAttention tag params s
  | .softReset tag params => Sys2Proof.Machine.execSoftReset tag params s
  | .badCommand tag code params => Sys2Proof.Machine.execBadCommand tag code params s
  | .obsDefect port tray code zone extent => Sys2Proof.Machine.execObsDefect port tray code zone extent s
  | .obsTag port tray present mismatch => Sys2Proof.Machine.execObsTag port tray present mismatch s
  | .obsWeight port tray grams => Sys2Proof.Machine.execObsWeight port tray grams s
  | .itemDone port tray => Sys2Proof.Machine.execItemDone port tray s
  | .announce port cls cap => Sys2Proof.Machine.execAnnounce port cls cap s
  | .pauseAck port => Sys2Proof.Machine.execPauseAck port s
  | .resumeAck port => Sys2Proof.Machine.execResumeAck port s
  | .idle port => Sys2Proof.Machine.execIdle port s
  | .frameRejected port bytes => Sys2Proof.Machine.execFrameRejected port bytes s
  | .probeWindowExpiry port => Sys2Proof.Machine.execProbeWindowExpiry port s
  | .pauseTimeout port => Sys2Proof.Machine.execPauseTimeout port s
  | .resumeTimeout port => Sys2Proof.Machine.execResumeTimeout port s
  | .takeDefectRecord port => Sys2Proof.Machine.execTakeDefectRecord port s
  | .takeTagRecord port => Sys2Proof.Machine.execTakeTagRecord port s
  | .takeWeightRecord port => Sys2Proof.Machine.execTakeWeightRecord port s
  | .takeItemDoneRecord port => Sys2Proof.Machine.execTakeItemDoneRecord port s
  | .gradingStart => Sys2Proof.Machine.execGradingStart s
  | .gradingCompletion => Sys2Proof.Machine.execGradingCompletion s
  | .decisionReq tray => Sys2Proof.Machine.execDecisionReq tray s
  | .divertDone tray chute => Sys2Proof.Machine.execDivertDone tray chute s
  | .divertMissed tray chute => Sys2Proof.Machine.execDivertMissed tray chute s
  | .orderExpiry tray chute => Sys2Proof.Machine.execOrderExpiry tray chute s
  | .toteFull chute => Sys2Proof.Machine.execToteFull chute s
  | .toteInPlace chute toteId => Sys2Proof.Machine.execToteInPlace chute toteId s
  | .chuteJam chute => Sys2Proof.Machine.execChuteJam chute s
  | .chuteClear chute => Sys2Proof.Machine.execChuteClear chute s
  | .entrySent => Sys2Proof.Machine.execEntrySent s
  | .portFrameSent port => Sys2Proof.Machine.execPortFrameSent port s
  | .linkUp port => Sys2Proof.Machine.execLinkUp port s
  | .linkDown port => Sys2Proof.Machine.execLinkDown port s
  | .powerOnReset => Sys2Proof.Machine.execPowerOnReset s

end Sys2Proof.Machine
end

