-- ==== Sys2Proof/Safety.lean ====
section
/-! DEFINITION. The laws that the manual states of every state of the part, as predicates of State: what the claims call a
sound state. -/

namespace Sys2Proof.Machine

/-! ### The outbound queue (R162 to R165) -/

/-- Some must-deliver record waits in its owner (R163). -/
def State.recordWaits (s : State) : Prop :=
  s.waitingResult.isSome ∨ s.waitingTotes ≠ [] ∨ ∃ i, (s.context i).state = .reporting

/-- The queue holds at most 64 entries, waiting records exist only while it holds 64, and the dropped count is at most 255
(R163 to R165). -/
def OutboundSound (s : State) : Prop :=
  s.outbound.length ≤ 64 ∧ (s.recordWaits → s.outbound.length = 64) ∧ s.dropped ≤ 255

/-! ### Contexts, the tray map and the grading queue (R1, R2) -/

/-- A context is live in OPEN, QUEUED, GRADING, GRADED and ORDERED (1.1). -/
def ContextState.live : ContextState → Bool
  | .opened | .queued | .grading | .graded | .ordered => true
  | .free | .reporting => false

/-- The tray map names exactly the live contexts, each by its own tray; entry 1023 is empty (R1). -/
def TrayMapSound (s : State) : Prop :=
  (∀ t i, s.lookup t = some i ↔ ((s.context i).state.live = true ∧ (s.context i).tray = t)) ∧ s.lookup noTray = none

/-- The grading queue holds exactly the QUEUED contexts, each once (R2). -/
def GradingQueueSound (s : State) : Prop :=
  s.gradingQueue.Nodup ∧ ∀ i, i ∈ s.gradingQueue ↔ (s.context i).state = .queued

/-- The context in GRADING is the one in flight (1.1, R27). -/
def GradingSound (s : State) : Prop :=
  ∀ i, (s.context i).state = .grading ↔ s.inFlight.map Grading.context = some i

/-- The three laws of the item context table together. -/
def ContextsSound (s : State) : Prop := TrayMapSound s ∧ GradingQueueSound s ∧ GradingSound s

/-- An observation list holds at most 12 entries, no two with the same code (R14). -/
def ListSound (c : Context) : Prop := c.observations.length ≤ 12 ∧ (c.observations.map Observation.code).Nodup

/-- The reported ports are a subset of the expected ports (R19). -/
def ReportsSound (c : Context) : Prop := ∀ p, portIn p c.reported = true → portIn p c.expected = true

/-! ### Ports (R125, R126, R140, R141, R152) -/

/-- The queues of the ports keep their capacities (R140, R152). -/
def PortQueuesSound (s : State) : Prop :=
  (∀ p, (s.port p).inbound.length ≤ 16) ∧ (∀ p : StationPort, s.stationTx[p].length ≤ 8) ∧ s.sorterTx.length ≤ 64

/-- The port timer runs in PROBING, PAUSING and RESUMING only; the fault cause is other than none in FAULT only; the HOLD
state is clear in DETACHED and LISTENING (R125, R126, R141). -/
def PortSound (P : PortRecord) : Prop :=
  (P.timer.isSome ↔ P.state = .probing ∨ P.state = .pausing ∨ P.state = .resuming) ∧
  (P.faultCause.isSome ↔ P.state = .fault) ∧
  (P.state = .detached ∨ P.state = .listening → P.hold = false) ∧
  (P.compound = true → P.state = .listening ∨ P.state = .probing)

/-- An OPEN context expects, of the ports whose ITEM_DONE it has not had, only those in READY or PAUSING (R21, R139): between a
station's loss and its port's next READY no other context expects the port (R186). -/
def ExpectedSound (s : State) : Prop :=
  ∀ (i : ContextIndex) (p : StationPort), (s.context i).state = .opened → portIn p (s.context i).expected = true →
    portIn p (s.context i).reported = false → (s.port p).state = .ready ∨ (s.port p).state = .pausing

/-! ### Settings and tables (R50, R63, R65, R172) -/

/-- Every field of the settings record lies in its range (R172). -/
def SettingsSound (g : Settings) : Prop :=
  1 ≤ g.lapLimit ∧ g.lapLimit ≤ 7 ∧ 1 ≤ g.orderTimeout ∧ g.orderTimeout ≤ 15 ∧ 1 ≤ g.defaultWeight ∧
  g.defaultWeight ≤ 20000 ∧ 4 ≤ g.holdThreshold ∧ g.holdThreshold ≤ 15 ∧ g.basicZone ≤ 2 ∧ 1 ≤ g.basicExtent ∧
  g.basicExtent ≤ 4

/-- A target satisfies the range condition (R63). -/
def TargetSound (t : Target) : Prop := 1 ≤ t.width ∧ t.width ≤ 8 ∧ t.first.val + t.width - 1 ≤ 31

/-- A window's conditions and target are in range; a disabled window holds the blank values (R65). -/
def WindowSound (w : Window) : Prop :=
  w.tiers ≠ 0 ∧ w.reasons ≠ 0 ∧ w.lo ≤ w.hi ∧ TargetSound w.target ∧ (w.enabled = false → w = {})

/-- A profile's thresholds are in order and its fields in range; an invalid entry holds the zero profile (R50). -/
def ProfileSound (p : Profile) : Prop :=
  p.tA ≤ p.tB ∧ p.tB ≤ p.tC ∧ p.tC ≤ p.tD ∧ p.tD ≤ 4095 ∧ p.tolerance ≤ 25 ∧ p.allowance ≤ 365 ∧ p.rate ≤ 50 ∧
  p.cap ≤ 1000 ∧ p.tagPoints ≤ 255 ∧ (p.valid = false → p = {})

/-- Every table entry, window, default target and setting is in its range. -/
def TablesSound (s : State) : Prop :=
  (∀ c : Fin 64, ProfileSound s.profiles[c]) ∧
  (∀ (k : Fin 16) (c : Fin 128), s.weights[k][c].weight ≤ 255) ∧
  (∀ (g : Fin 6) (i : Fin 8), WindowSound s.windows[g][i]) ∧
  (∀ g : Fin 6, TargetSound s.defaults[g]) ∧
  SettingsSound s.settings

/-! ### Ranges of contexts, item results and orders (1.1, 2.9, R77) -/

/-- The fields of an item result lie in the ranges that 1.1, 2.9 and 4.1 give them. -/
structure ItemRanges (r : ItemResult) : Prop where
  laps : r.laps ≤ 15
  width : ∀ ct, r.target = some ct → 1 ≤ ct.target.width ∧ ct.target.width ≤ 8
  score : r.score.defect ≤ 4095 ∧ r.score.weight ≤ 400 ∧ r.score.age ≤ 1000 ∧ r.score.tag ≤ 255 ∧ -128 ≤ r.score.reason ∧
    r.score.reason ≤ 127 ∧ r.score.total ≤ 4095
  list : r.observations.length ≤ 12 ∧ ∀ o ∈ r.observations, o.2 ≤ 1020

/-- The fields of a context lie in the ranges that the manual gives them: laps (R5), list entries (R13), measured and catalogue
grams (R7, R16), score parts (R31, R33, R34, R35, R37, R38) and the copied target (R43, R63). -/
structure ContextRanges (c : Context) : Prop where
  laps : c.laps ≤ 15
  list : ∀ o ∈ c.observations, o.zone ≤ 2 ∧ 1 ≤ o.extent ∧ o.extent ≤ 4 ∧ o.points ≤ 1020
  measured : ∀ m, c.measured = some m → m ≤ 20000
  catalogue : c.catalogue ≤ 20000
  score : c.score.defect ≤ 4095 ∧ c.score.weight ≤ 400 ∧ c.score.age ≤ 1000 ∧ c.score.tag ≤ 255 ∧ -128 ≤ c.score.reason ∧
    c.score.reason ≤ 127 ∧ c.score.total ≤ 4095
  target : ∀ ct, c.target = some ct → TargetSound ct.target

/-- Every context, every item result on its way to the line controller and every outstanding order holds values in their
ranges (R77, R96, R110, R157). -/
structure RangesSound (s : State) : Prop where
  contexts : ∀ i, ContextRanges (s.context i)
  results : ∀ r, OutFrame.item r ∈ s.outbound ++ s.lineFinishing.toList → ItemRanges r
  orders : ∀ o ∈ s.orders, o.grams ≤ 20000 ∧ o.remaining ≤ 15000

/-! ### Chutes, totes and orders (R77, R78, R103, R104, R105, R108, R110) -/

/-- A chute has a pending descriptor exactly in SWAPPING, an ACTIVE one exactly in OPEN and CLOSING, and a pending close cause
exactly in CLOSING (R105). -/
def ChuteSound (c : ChuteRecord) : Prop :=
  (c.pending.isSome ↔ c.state = .swapping) ∧
  (c.active.isSome ↔ c.state = .opened ∨ c.state = .closing) ∧
  (c.pendingCause.isSome ↔ c.state = .closing)

/-- The descriptors of a chute's sequence: its pending or ACTIVE descriptor and its chain (R104). -/
def ChuteRecord.sequence (c : ChuteRecord) : List DescriptorIndex := c.pending.toList ++ c.active.toList ++ c.chain

/-- The reserved grams of a list of orders. -/
def orderGrams (os : List DivertOrder) : Nat := (os.map DivertOrder.grams).sum

/-- An ACTIVE descriptor keeps the law of R110 and its reservations are those of its chute's outstanding orders (R78). -/
def TallySound (D : Descriptor) (os : List DivertOrder) : Prop :=
  D.reservedItems = os.length ∧ D.reservedGrams = orderGrams os ∧
  D.committedItems + D.reservedItems ≤ D.capacity ∧ D.committedGrams + D.reservedGrams ≤ D.weightLimit

/-- The orders outstanding for chute k. -/
def State.ordersOf (s : State) (k : Chute) : List DivertOrder := s.orders.filter (fun o => o.chute = k)

/-- The laws of the tote chain unit and the order list (R77, R78, R103, R104, R105, R106, R108, R110, R116). -/
structure TotesSound (s : State) : Prop where
  chutes : ∀ k, ChuteSound (s.chute k)
  /-- No descriptor stands twice in the sequences of the chutes (R104). -/
  sequenceNodup : ∀ k, (s.chute k).sequence.Nodup
  sequenceDisjoint : ∀ k j d, k ≠ j → d ∈ (s.chute k).sequence → d ∉ (s.chute j).sequence
  /-- A descriptor in a chain or pending is QUEUED, and each QUEUED one is in some chute's sequence (R104). -/
  queued : ∀ d, (s.descriptor d).state = .queued ↔ ∃ k, d ∈ (s.chute k).pending.toList ++ (s.chute k).chain
  /-- The ACTIVE descriptors are those the chutes hold (R104). -/
  active : ∀ d, (s.descriptor d).state = .active ↔ ∃ k, (s.chute k).active = some d
  /-- A CLOSED descriptor is one whose record waits (R118). -/
  closed : ∀ d, (s.descriptor d).state = .closed ↔ ∃ w ∈ s.waitingTotes, w.descriptor = d
  waitingNodup : (s.waitingTotes.map WaitingTote.descriptor).Nodup
  /-- Every outstanding order is on the ACTIVE descriptor of its chute (R78). -/
  orderActive : ∀ o ∈ s.orders, (s.chute o.chute).active = some o.descriptor
  tally : ∀ k d, (s.chute k).active = some d → TallySound (s.descriptor d) (s.ordersOf k)
  /-- No chute has more than 2 outstanding orders (R77). -/
  twoOrders : ∀ k, (s.ordersOf k).length ≤ 2
  /-- A CLOSING chute has an order outstanding (R105). -/
  closingHeld : ∀ k, (s.chute k).state = .closing → s.ordersOf k ≠ []
  /-- The list holds at most one entry for each tray (R77). -/
  oneOrder : (s.orders.map DivertOrder.tray).Nodup
  /-- An entry names a context only while that context is ORDERED, whose tray is the entry's (R77). -/
  orderContext : ∀ o ∈ s.orders, ∀ i, o.context = some i → (s.context i).state = .ordered ∧ (s.context i).tray = o.tray
  /-- Each ORDERED context is named by an entry (R77). -/
  orderedNamed : ∀ i, (s.context i).state = .ordered → ∃ o ∈ s.orders, o.context = some i
  /-- Each descriptor of a chute's sequence names the one behind it, and the last names none (R104). -/
  links : ∀ (k : Chute) (n : Nat) (h : n < (s.chute k).sequence.length),
    (s.descriptor (s.chute k).sequence[n]).next = (s.chute k).sequence[n + 1]?
  /-- A FREE descriptor holds the values of R103. -/
  free : ∀ d, (s.descriptor d).state = .free → s.descriptor d =
    { state := .free, toteId := 0, capacity := 0, weightLimit := 0, continueFlag := false, next := none,
      committedItems := 0, committedGrams := 0, reservedItems := 0, reservedGrams := 0, readId := 0, strays := 0,
      closeCause := none }
  /-- A QUEUED descriptor has counts 0, no read tote id and no strays (R106, R108). -/
  fresh : ∀ d, (s.descriptor d).state = .queued →
    (s.descriptor d).committedItems = 0 ∧ (s.descriptor d).committedGrams = 0 ∧ (s.descriptor d).reservedItems = 0 ∧
    (s.descriptor d).reservedGrams = 0 ∧ (s.descriptor d).readId = 0 ∧ (s.descriptor d).strays = 0
  /-- A descriptor holds a close cause exactly while it is CLOSED (R103, R117). -/
  closeCause : ∀ d, (s.descriptor d).closeCause.isSome ↔ (s.descriptor d).state = .closed
  /-- A descriptor in use holds the ranges of R103. -/
  ranges : ∀ d, (s.descriptor d).state ≠ .free →
    1 ≤ (s.descriptor d).capacity ∧ (s.descriptor d).capacity ≤ 60 ∧ 100 ≤ (s.descriptor d).weightLimit ∧
    (s.descriptor d).weightLimit ≤ 30000 ∧ (s.descriptor d).strays ≤ 255

/-! ### Words that the claims use -/

/-- The tag, the command code and the parameters of the rows that an MGMT_CMD brings (R148). -/
def managementOf : Instr → Option (Byte × Byte × List Byte)
  | .configure g ps => some (g, 0x01, ps)
  | .portConfig g ps => some (g, 0x02, ps)
  | .goDetach g ps | .goListen g ps | .goProbe g ps | .goReady g ps | .goPause g ps | .goResume g ps
  | .goListenToReady g ps => some (g, 0x03, ps)
  | .writeWeights g ps => some (g, 0x04, ps)
  | .writeProfile g ps => some (g, 0x05, ps)
  | .writeReasons g ps => some (g, 0x06, ps)
  | .writeWindow g ps => some (g, 0x07, ps)
  | .writeDefault g ps => some (g, 0x08, ps)
  | .chainLoad g ps => some (g, 0x09, ps)
  | .chainClear g ps => some (g, 0x0A, ps)
  | .enable g ps | .disable g ps | .closeNow g ps | .advance g ps => some (g, 0x0B, ps)
  | .abandonTray g ps => some (g, 0x0C, ps)
  | .readContext g ps => some (g, 0x0D, ps)
  | .readChute g ps => some (g, 0x0E, ps)
  | .readTable g ps => some (g, 0x0F, ps)
  | .readStatus g ps => some (g, 0x10, ps)
  | .eventRoute g ps => some (g, 0x11, ps)
  | .ackAttention g ps => some (g, 0x12, ps)
  | .softReset g ps => some (g, 0x13, ps)
  | .badCommand g code ps => some (g, code, ps)
  | _ => none

/-- The port and the record of the four queued station frames (1.7, R140). -/
def queuedOf : Instr → Option (StationPort × ObsRecord)
  | .obsDefect p t code zone extent => some (p, { tray := t, body := .defect code zone extent })
  | .obsTag p t present mismatch => some (p, { tray := t, body := .tag present mismatch })
  | .obsWeight p t grams => some (p, { tray := t, body := .weight grams })
  | .itemDone p t => some (p, { tray := t, body := .itemDone })
  | _ => none

/-- The port of the eight station frames (R146). -/
def stationOf : Instr → Option StationPort
  | .obsDefect p _ _ _ _ | .obsTag p _ _ _ | .obsWeight p _ _ | .itemDone p _ | .announce p _ _ | .pauseAck p
  | .resumeAck p | .idle p => some p
  | _ => none

/-- The row that takes a record of a kind from a port's queue (R12). -/
def takeRow (p : StationPort) : RecordKind → Instr
  | .defect => .takeDefectRecord p
  | .tag => .takeTagRecord p
  | .weight => .takeWeightRecord p
  | .itemDone => .takeItemDoneRecord p

/-- The state after the head of port p's queue, whose rest is given, has left: RELEASE is sent and the HOLD state cleared
where the count has fallen to the threshold less 4 (R12, R141). -/
def State.afterLeave (s : State) (p : StationPort) (rest : List ObsRecord) : State :=
  let s1 := s.modPort p (fun P => { P with inbound := rest })
  if (s.port p).hold = true ∧ rest.length + 4 ≤ s.settings.holdThreshold then
    (s1.modPort p (fun P => { P with hold := false })).sendStation p .release
  else s1

/-- A context that has just sealed in slot i, with the record c, as it stands at the end of the step: QUEUED at the tail, or
GRADING where the queue was empty and the grading unit idle (R20, R27). -/
def State.withSealed (s : State) (i : ContextIndex) (c : Context) : State :=
  if s.gradingQueue = [] ∧ s.inFlight = none then
    { s with inFlight := some { context := i, classes := s.detectedClasses } }.modContext i
      (fun _ => { c with state := .grading })
  else { s with gradingQueue := s.gradingQueue ++ [i] }.modContext i (fun _ => { c with state := .queued })

/-- The record of a context right after induction, with its expected ports (1.1, R6, R7). -/
def inductedContext (t : Tray) (f : InductItem) (expected : PortSet) : Context where
  state := .opened
  tray := t
  category := f.category
  tier := f.tier
  season := f.season
  size := f.size
  reason := f.reason
  days := f.days
  catalogue := if f.catalogue.toNat ≤ 20000 then f.catalogue.toNat else 20000
  orderRef := f.orderRef
  expected := expected
  reported := 0
  lost := 0
  observations := []
  overflow := false
  manualDropped := false
  measured := none
  tags := none
  mismatch := false
  late := false
  laps := 0
  grade := none
  score := { defect := 0, weight := 0, age := 0, tag := 0, reason := 0, total := 0 }
  causes := { noProfile := false, manualDefect := false, labelMismatch := false, missingMandatory := false,
              observationLost := false }
  target := none
  ageUnknown := false
  weightUnchecked := false
  exceptionRoute := false
  abandonMark := false
  outcome := none
  delivery := none
  stamp := none

/-- A context opens in slot j for tray t: its expected ports are the READY ports, and with none READY it seals at once
(R6, R11). -/
def OpensContext (s : State) (j : ContextIndex) (t : Tray) (f : InductItem) (u : State) : Prop :=
  ∃ e : PortSet, (∀ p, portIn p e = true ↔ (s.port p).state = .ready) ∧
    (e ≠ 0 → u = (s.modContext j (fun _ => inductedContext t f e)).setMap t (some j)) ∧
    (e = 0 → u = (s.setMap t (some j)).withSealed j (inductedContext t f e))

/-- Slot j is the lowest-numbered FREE one (R6). -/
def State.lowestFree (s : State) (j : ContextIndex) : Prop :=
  (s.context j).state = .free ∧ ∀ i, i < j → (s.context i).state ≠ .free

/-- The fields of a context that 1.1 gives an at-open value other than from INDUCT or the READY ports hold that value. -/
structure AtOpen (c : Context) : Prop where
  ports : c.reported = 0 ∧ c.lost = 0
  list : c.observations = [] ∧ c.overflow = false ∧ c.manualDropped = false
  records : c.measured = none ∧ c.tags = none ∧ c.mismatch = false ∧ c.late = false
  laps : c.laps = 0
  grade : c.grade = none
  score : c.score = { defect := 0, weight := 0, age := 0, tag := 0, reason := 0, total := 0 }
  causes : c.causes = { noProfile := false, manualDefect := false, labelMismatch := false, missingMandatory := false,
                        observationLost := false }
  target : c.target = none
  flags : c.ageUnknown = false ∧ c.weightUnchecked = false ∧ c.exceptionRoute = false
  abandonMark : c.abandonMark = false
  closing : c.outcome = none ∧ c.delivery = none ∧ c.stamp = none

/-- Every piece of state holds its power-on value, for the pieces whose value the manual gives (R26, R47, R53, R63, R65, R79,
R103, R105, R125, R150, R167, R168, R172). -/
structure AtPowerOn (s : State) : Prop where
  contexts : ∀ i, (s.context i).state = .free ∧ AtOpen (s.context i)
  trayMap : ∀ t, s.lookup t = none
  gradingQueue : s.gradingQueue = []
  stampCounter : s.stampCounter = 0
  inFlight : s.inFlight = none
  weights : ∀ (k : Fin 16) (c : Fin 128), s.weights[k][c] = { weight := 0, manual := false }
  profiles : ∀ c : Fin 64, s.profiles[c] =
    { valid := false, defectSet := 0, mandatory := 0, tA := 0, tB := 0, tC := 0, tD := 0, tolerance := 0, allowance := 0,
      rate := 0, cap := 0, tagsRequired := false, tagPoints := 0 }
  reasons : ∀ r : Fin 16, s.reasons[r] = 0
  windows : ∀ (g : Fin 6) (i : Fin 8), s.windows[g][i] =
    { enabled := false, category := none, tiers := 0xFF, lo := 0, hi := 15, reasons := 0xFFFF,
      target := { cls := .manual, first := 31, width := 1, spread := .fill } }
  defaults : ∀ g : Fin 6, s.defaults[g] = { cls := .manual, first := 31, width := 1, spread := .fill }
  orders : s.orders = []
  chutes : ∀ k, s.chute k =
    { state := .unconfigured, disabled := false, jammed := false, pending := none, active := none, chain := [],
      pendingCause := none }
  descriptors : ∀ d, s.descriptor d =
    { state := .free, toteId := 0, capacity := 0, weightLimit := 0, continueFlag := false, next := none,
      committedItems := 0, committedGrams := 0, reservedItems := 0, reservedGrams := 0, readId := 0, strays := 0,
      closeCause := none }
  ports : ∀ p, s.port p =
    { state := .detached, expectedClass := .label, detectedClass := .label, capability := .basic, compound := false,
      faultCause := none, timer := none, inbound := [], hold := false }
  links : ∀ p : Port, s.link p = .down
  waiting : (∀ p : StationPort, s.stationTx[p] = []) ∧ s.sorterTx = [] ∧ s.waitingTotes = [] ∧ s.lineFinishing = none
  report : s.outbound = [] ∧ (∀ k : EventKind, s.route k = .frame) ∧ s.attention = false ∧ s.dropped = 0
  settings : s.settings = { lapLimit := 3, exceptionChute := 31, orderTimeout := 4, defaultWeight := 600,
                            holdThreshold := 12, basicZone := 2, basicExtent := 2, lock := false }
  command : s.command = none

/-- Some check of R81 refuses chute k for an item of g grams. -/
def State.refuses (s : State) (k : Chute) (g : Nat) : Prop :=
  (s.chute k).state ≠ .opened ∨ (s.chute k).disabled = true ∨ (s.chute k).jammed = true ∨ 2 ≤ s.ordersAt k ∨
  ∀ d, (s.chute k).active = some d →
    (s.descriptor d).capacity ≤ (s.descriptor d).committedItems + (s.descriptor d).reservedItems ∨
    (s.descriptor d).weightLimit < (s.descriptor d).committedGrams + (s.descriptor d).reservedGrams + g

/-- Every check of R81 passes for chute k and an item of g grams, on the ACTIVE descriptor d. -/
def State.accepts (s : State) (k : Chute) (g : Nat) (d : DescriptorIndex) : Prop :=
  (s.chute k).state = .opened ∧ (s.chute k).disabled = false ∧ (s.chute k).jammed = false ∧ s.ordersAt k < 2 ∧
  (s.chute k).active = some d ∧
  (s.descriptor d).committedItems + (s.descriptor d).reservedItems < (s.descriptor d).capacity ∧
  (s.descriptor d).committedGrams + (s.descriptor d).reservedGrams + g ≤ (s.descriptor d).weightLimit

/-- An order for tray t to chute k on descriptor d is issued, as R82 lists it. -/
def State.ordered (s : State) (t : Tray) (k : Chute) (d : DescriptorIndex) (g : Nat) (c : Option ContextIndex) : State :=
  let s1 : State := { s with orders := s.orders ++
    [{ tray := t, chute := k, descriptor := d, grams := g, context := c, remaining := s.settings.orderTimeout * 1000 }] }
  let s2 := (s1.modDescriptor d (fun D => { D with
    reservedItems := D.reservedItems + 1, reservedGrams := D.reservedGrams + g })).sendSorter (.divertOrder t k)
  match c with
  | some i => s2.modContext i (fun x => { x with state := .ordered })
  | none => s2

/-- A recirculation of a tray with a context: the answer is sent and a lap counted (R5, R85 to R88). -/
def State.recirculated (s : State) (t : Tray) (i : ContextIndex) : State :=
  (s.sendSorter (.recircOrder t)).modContext i (fun c => { c with laps := if c.laps < 15 then c.laps + 1 else 15 })

/-- Window w matches the fields that the matcher is given (R66). -/
def WindowMatches (w : Window) (c : Context) : Prop :=
  w.enabled = true ∧ (w.category = none ∨ w.category = some c.category) ∧ w.tiers.getLsbD c.tier.val = true ∧
  w.lo ≤ c.season ∧ c.season ≤ w.hi ∧ w.reasons.getLsbD c.reason.val = true

/-! ### Parameters of commands, in bytes (R56, R58, R70, R72, R106, R148, R176, R177) -/

/-- The number in place i of a run of bytes, 0 past its end. -/
def numAt (ps : List Byte) (i : Nat) : Nat := (ps.getD i 0).toNat

/-- The number in places i and i + 1 of a run of bytes, most significant first (R147). -/
def wordAt (ps : List Byte) (i : Nat) : Nat := numAt ps i * 256 + numAt ps (i + 1)

/-- The parameters of a WRITE_WEIGHTS pass its checks: 7 bytes and one for each entry of the count; set at most 15, first code at
most 127, count 1 to 32, run end at most 127 (R56, R148). -/
def WeightsFit (ps : List Byte) : Prop :=
  7 ≤ ps.length ∧ ps.length = 7 + numAt ps 2 ∧ numAt ps 0 ≤ 15 ∧ numAt ps 1 ≤ 127 ∧ 1 ≤ numAt ps 2 ∧ numAt ps 2 ≤ 32 ∧
  numAt ps 1 + numAt ps 2 - 1 ≤ 127

/-- The parameters of a WRITE_PROFILE pass its checks: the category and a clear valid flag, in 2 or 20 bytes, or 20 bytes with
every field in its range (R58, R177). -/
def ProfileFits (ps : List Byte) : Prop :=
  (ps.length = 2 ∨ ps.length = 20) ∧ numAt ps 0 ≤ 63 ∧
  (numAt ps 1 = 0 ∨ numAt ps 1 = 1 ∧ ps.length = 20 ∧ numAt ps 2 ≤ 15 ∧ numAt ps 3 < 16 ∧ wordAt ps 4 ≤ wordAt ps 6 ∧
    wordAt ps 6 ≤ wordAt ps 8 ∧ wordAt ps 8 ≤ wordAt ps 10 ∧ wordAt ps 10 ≤ 4095 ∧ numAt ps 12 ≤ 25 ∧
    wordAt ps 13 ≤ 365 ∧ numAt ps 15 ≤ 50 ∧ wordAt ps 16 ≤ 1000 ∧ numAt ps 18 ≤ 1)

/-- The four bytes of a target from place i on pass the target checks: class, first chute, width, range, spread (R70). -/
def TargetFits (ps : List Byte) (i : Nat) : Prop :=
  numAt ps i ≤ 5 ∧ numAt ps (i + 1) ≤ 31 ∧ 1 ≤ numAt ps (i + 2) ∧ numAt ps (i + 2) ≤ 8 ∧
  numAt ps (i + 1) + numAt ps (i + 2) - 1 ≤ 31 ∧ numAt ps (i + 3) ≤ 1

/-- The parameters of a WRITE_WINDOW pass its checks: grade, index and a clear enabled flag, in 3 or 13 bytes, or 13 bytes with
every field in its range (R70, R177). -/
def WindowFits (ps : List Byte) : Prop :=
  (ps.length = 3 ∨ ps.length = 13) ∧ 1 ≤ numAt ps 0 ∧ numAt ps 0 ≤ 6 ∧ numAt ps 1 ≤ 7 ∧
  (numAt ps 2 = 0 ∨ numAt ps 2 = 1 ∧ ps.length = 13 ∧ (numAt ps 3 ≤ 63 ∨ numAt ps 3 = 255) ∧ numAt ps 4 ≠ 0 ∧
    numAt ps 5 ≤ numAt ps 6 ∧ numAt ps 6 ≤ 15 ∧ wordAt ps 7 ≠ 0 ∧ TargetFits ps 9)

/-- The parameters of a WRITE_DEFAULT pass its checks (R72, R177). -/
def DefaultFits (ps : List Byte) : Prop :=
  ps.length = 5 ∧ 1 ≤ numAt ps 0 ∧ numAt ps 0 ≤ 6 ∧ TargetFits ps 1

/-- The code names a table write whose parameters pass their checks (R56, R58, R60, R70, R72, R148). -/
def TableWriteFits (code : Byte) (ps : List Byte) : Prop :=
  code = 0x04 ∧ WeightsFit ps ∨ code = 0x05 ∧ ProfileFits ps ∨ code = 0x06 ∧ ps.length = 16 ∨ code = 0x07 ∧ WindowFits ps ∨
  code = 0x08 ∧ DefaultFits ps

/-- The parameters of a CHAIN_LOAD pass its checks: a chute, a count of 1 to 8, and as many entries of six bytes, each with its
capacity at place 2, its weight limit at place 3 and its continue flag at place 5 (R106, R170, R176). -/
def ChainLoadFits (ps : List Byte) : Prop :=
  2 ≤ ps.length ∧ ps.length = 2 + 6 * numAt ps 1 ∧ numAt ps 0 ≤ 31 ∧ 1 ≤ numAt ps 1 ∧ numAt ps 1 ≤ 8 ∧
  ∀ n, n < numAt ps 1 → 1 ≤ numAt ps (4 + 6 * n) ∧ numAt ps (4 + 6 * n) ≤ 60 ∧ 100 ≤ wordAt ps (5 + 6 * n) ∧
    wordAt ps (5 + 6 * n) ≤ 30000 ∧ numAt ps (7 + 6 * n) ≤ 1

/-! ### Frames and codes as the manual's tables give them (R143, R144, R147, R149, R160, R176, R178, R181) -/

/-- The bytes of a frame with these kind, tray bytes and payload: kind, length, tray, payload, and the check over these, each
number most significant byte first (R143, R144). -/
def FrameOf (bytes : List Byte) (kind hi lo : Byte) (payload : List Byte) : Prop :=
  ∃ c1 c0 : Byte,
    let body := [kind, byteOf payload.length, hi, lo] ++ payload
    bytes = body ++ [c1, c0] ∧ c1 ++ c0 = crc16 body

/-- The bytes of a frame that carries this tray, the upper 6 bits of its field 0 (R143). -/
def IsFrame (bytes : List Byte) (kind : Byte) (tray : Tray) (payload : List Byte) : Prop :=
  FrameOf bytes kind (byteOf (tray.val / 256)) (byteOf tray.val) payload

/-- Bits hi to lo of the byte at place i, as a number. -/
def bitsAt (bs : List Byte) (i hi lo : Nat) : Nat := numAt bs i / 2 ^ lo % 2 ^ (hi + 1 - lo)

/-- The payload of an ITEM_RESULT holds the result's fields in the places of R147, with 0 in the places of an absent grade, target
or delivery and in the bits that no field occupies. -/
structure ItemPayload (r : ItemResult) (pl : List Byte) : Prop where
  length : pl.length = 24 + 3 * r.observations.length
  orderRef : pl.getD 0 0 ++ pl.getD 1 0 ++ pl.getD 2 0 ++ pl.getD 3 0 = r.orderRef
  category : bitsAt pl 4 7 2 = r.category.val
  outcome : ∀ o, r.outcome = some o → bitsAt pl 4 1 0 = o.code
  key : bitsAt pl 5 7 4 = r.season.val ∧ bitsAt pl 5 3 0 = r.size.val
  reason : bitsAt pl 6 7 4 = r.reason.val
  laps : bitsAt pl 6 3 0 = r.laps
  tier : bitsAt pl 7 7 5 = r.tier.val
  grade : bitsAt pl 7 4 2 = gradeCode r.grade
  target : ∀ ct, r.target = some ct → bitsAt pl 7 1 1 = ct.target.spread.code ∧ bitsAt pl 8 7 5 = ct.target.cls.code ∧
    bitsAt pl 8 4 1 = windowCode ct.window ∧ bitsAt pl 9 7 3 = ct.target.first.val ∧
    bitsAt pl 9 2 0 = ct.target.width - 1
  noTarget : r.target = none → bitsAt pl 7 1 1 = 0 ∧ numAt pl 8 = 0 ∧ numAt pl 9 = 0
  unused : bitsAt pl 7 0 0 = 0 ∧ bitsAt pl 8 0 0 = 0 ∧ bitsAt pl 11 5 4 = 0
  flags : bitsAt pl 10 7 7 = r.late.toNat ∧ bitsAt pl 10 6 6 = r.overflow.toNat ∧ bitsAt pl 10 5 5 = r.exceptionRoute.toNat ∧
    bitsAt pl 11 7 7 = r.ageUnknown.toNat ∧ bitsAt pl 11 6 6 = r.weightUnchecked.toNat
  causes : bitsAt pl 10 4 4 = r.causes.noProfile.toNat ∧ bitsAt pl 10 3 3 = r.causes.manualDefect.toNat ∧
    bitsAt pl 10 2 2 = r.causes.labelMismatch.toNat ∧ bitsAt pl 10 1 1 = r.causes.missingMandatory.toNat ∧
    bitsAt pl 10 0 0 = r.causes.observationLost.toNat
  count : bitsAt pl 11 3 0 = r.observations.length
  delivery : ∀ d, r.delivery = some d → numAt pl 12 = d.chute.val ∧ wordAt pl 13 = d.toteId.toNat
  noDelivery : r.delivery = none → numAt pl 12 = 0 ∧ wordAt pl 13 = 0
  penalties : wordAt pl 15 = r.score.weight ∧ wordAt pl 17 = r.score.age ∧ numAt pl 19 = r.score.tag ∧
    (pl.getD 20 0).toInt = r.score.reason
  defect : wordAt pl 21 / 16 = r.score.defect
  total : wordAt pl 22 % 4096 = r.score.total
  list : ∀ (n : Nat) (h : n < r.observations.length), numAt pl (24 + 3 * n) = r.observations[n].1.val ∧
    wordAt pl (25 + 3 * n) = r.observations[n].2

/-- The codes of the enumerations, each list in the order of its table (R147, R160, R176, R178, R181). -/
def WireCodes : Prop :=
  [StationClass.label, .vision, .scale, .bench].map StationClass.code = [0, 1, 2, 3] ∧
  [Capability.basic, .extended].map Capability.code = [0, 1] ∧
  [ItemOutcome.diverted, .misdelivered, .abandoned, .replaced].map ItemOutcome.code = [0, 1, 2, 3] ∧
  [none, some Grade.a, some .b, some .c, some .d, some .z, some .m].map gradeCode = [0, 1, 2, 3, 4, 5, 6] ∧
  [DispositionClass.restock, .outlet, .refurbish, .vendorReturn, .recycle, .manual].map DispositionClass.code =
    [0, 1, 2, 3, 4, 5] ∧
  (∀ i : Fin 8, windowCode (some i) = i.val) ∧ windowCode none = 8 ∧
  [Spread.size, .fill].map Spread.code = [0, 1] ∧
  [CloseCause.count, .fullSignal, .forced, .cleared].map CloseCause.code = [1, 2, 3, 4] ∧
  [ResultCode.ok, .busy, .badCommand, .badParam, .refusedState, .noSpace, .notFound].map ResultCode.code =
    [0, 1, 2, 3, 4, 5, 6] ∧
  [PortState.detached, .listening, .attached, .probing, .probed, .ready, .pausing, .paused, .resuming, .fault].map
    PortState.code = [0, 1, 2, 3, 4, 5, 6, 7, 8, 9] ∧
  [ChuteState.unconfigured, .swapping, .opened, .closing, .exhausted].map ChuteState.code = [0, 1, 2, 3, 4] ∧
  [ContextState.opened, .queued, .grading, .graded, .ordered].map ContextState.code = [1, 2, 3, 4, 5] ∧
  [LinkState.down, .up].map LinkState.code = [0, 1] ∧
  [Route.off, .frame, .frameAndAttention].map Route.code = [0, 1, 2]

/-! ### Inbound frames as the manual's tables give them (R146, R147, R148) -/

/-- The kind codes that each port receives, and the payload lengths that each kind allows (R146). -/
structure InboundKinds : Prop where
  line : Port.line.receives.map InboundKind.code = [0x10, 0x11]
  station : ∀ p, (Port.station p).receives.map InboundKind.code = [0x20, 0x21, 0x22, 0x23, 0x24, 0x25, 0x26, 0x27]
  sorter : Port.sorter.receives.map InboundKind.code = [0x30, 0x31, 0x32, 0x33, 0x34, 0x35, 0x36]
  lengths : ∀ (k : InboundKind) (n : Nat), k.allows n = true ↔
    k.code = 0x10 ∧ n = 11 ∨ k.code = 0x11 ∧ 2 ≤ n ∧ n ≤ 60 ∨ k.code ∈ ([0x20, 0x21, 0x23] : List Byte) ∧ n = 2 ∨
    k.code ∈ ([0x22, 0x31, 0x32, 0x33, 0x35, 0x36] : List Byte) ∧ n = 1 ∨ k.code = 0x34 ∧ n = 3 ∨
    k.code ∈ ([0x24, 0x25, 0x26, 0x27, 0x30] : List Byte) ∧ n = 0

/-- The row of the table that a management command is, by its code (R148), and of a PORT_GO or CHUTE_CONTROL by its second
parameter byte (R121, R128, R176); one whose byte is absent or names no row is the row of code 0 (log entry 9). -/
structure MgmtRow (tag code : Byte) (ps : List Byte) (c : Instr) : Prop where
  configure : code = 0x01 → c = .configure tag ps
  portConfig : code = 0x02 → c = .portConfig tag ps
  goListen : code = 0x03 → numAt ps 1 = 1 → c = .goListen tag ps
  goProbe : code = 0x03 → numAt ps 1 = 2 → c = .goProbe tag ps
  goReady : code = 0x03 → numAt ps 1 = 3 → c = .goReady tag ps
  goPause : code = 0x03 → numAt ps 1 = 4 → c = .goPause tag ps
  goResume : code = 0x03 → numAt ps 1 = 5 → c = .goResume tag ps
  goListenToReady : code = 0x03 → numAt ps 1 = 6 → c = .goListenToReady tag ps
  goDetach : code = 0x03 → numAt ps 1 = 0 ∨ 6 < numAt ps 1 → c = .goDetach tag ps
  writeWeights : code = 0x04 → c = .writeWeights tag ps
  writeProfile : code = 0x05 → c = .writeProfile tag ps
  writeReasons : code = 0x06 → c = .writeReasons tag ps
  writeWindow : code = 0x07 → c = .writeWindow tag ps
  writeDefault : code = 0x08 → c = .writeDefault tag ps
  chainLoad : code = 0x09 → c = .chainLoad tag ps
  chainClear : code = 0x0A → c = .chainClear tag ps
  disable : code = 0x0B → numAt ps 1 = 1 → c = .disable tag ps
  closeNow : code = 0x0B → numAt ps 1 = 2 → c = .closeNow tag ps
  advance : code = 0x0B → numAt ps 1 = 3 → c = .advance tag ps
  enable : code = 0x0B → numAt ps 1 = 0 ∨ 3 < numAt ps 1 → c = .enable tag ps
  abandonTray : code = 0x0C → c = .abandonTray tag ps
  readContext : code = 0x0D → c = .readContext tag ps
  readChute : code = 0x0E → c = .readChute tag ps
  readTable : code = 0x0F → c = .readTable tag ps
  readStatus : code = 0x10 → c = .readStatus tag ps
  eventRoute : code = 0x11 → c = .eventRoute tag ps
  ackAttention : code = 0x12 → c = .ackAttention tag ps
  softReset : code = 0x13 → c = .softReset tag ps
  badCommand : code = 0x00 ∨ 0x13 < code.toNat → c = .badCommand tag code ps

/-- The command that a line frame of this kind, tray and payload brings (R147, R148). -/
structure LineCommand (kind : Byte) (t : Tray) (pl : List Byte) (c : Instr) : Prop where
  induct : kind = 0x10 → pl.length = 11 → ∃ f, c = .induct t f ∧ f.category.val = bitsAt pl 0 5 0 ∧
    f.tier.val = bitsAt pl 1 6 4 ∧ f.reason.val = bitsAt pl 1 3 0 ∧ f.season.val = bitsAt pl 2 7 4 ∧
    f.size.val = bitsAt pl 2 3 0 ∧ f.days.val = wordAt pl 3 % 1024 ∧ f.catalogue.toNat = wordAt pl 5 ∧
    f.orderRef = pl.getD 7 0 ++ pl.getD 8 0 ++ pl.getD 9 0 ++ pl.getD 10 0
  mgmtCmd : ∀ tag code ps, kind = 0x11 → pl = tag :: code :: ps → ps.length ≤ 58 → MgmtRow tag code ps c

/-- The command that a frame of this kind, tray and payload brings at station port p (R147). -/
structure StationCommand (p : StationPort) (kind : Byte) (t : Tray) (pl : List Byte) (c : Instr) : Prop where
  announce : ∀ cls cap, kind = 0x20 → pl = [cls, cap] → c = .announce p cls cap
  obsDefect : kind = 0x21 → pl.length = 2 → ∃ code zone extent, c = .obsDefect p t code zone extent ∧
    code.val = bitsAt pl 0 6 0 ∧ zone.val = bitsAt pl 1 4 3 ∧ extent.val = bitsAt pl 1 2 0
  obsTag : kind = 0x22 → pl.length = 1 → ∃ present mismatch, c = .obsTag p t present mismatch ∧
    present.toNat = bitsAt pl 0 1 1 ∧ mismatch.toNat = bitsAt pl 0 0 0
  obsWeight : ∀ hi lo, kind = 0x23 → pl = [hi, lo] → c = .obsWeight p t (hi ++ lo)
  itemDone : kind = 0x24 → pl = [] → c = .itemDone p t
  pauseAck : kind = 0x25 → pl = [] → c = .pauseAck p
  resumeAck : kind = 0x26 → pl = [] → c = .resumeAck p
  idle : kind = 0x27 → pl = [] → c = .idle p

/-- The command that a sorter frame of this kind, tray and payload brings, with the chute of its first payload byte (R147). -/
structure SorterCommand (kind : Byte) (t : Tray) (pl : List Byte) (k : Chute) (c : Instr) : Prop where
  decisionReq : kind = 0x30 → pl = [] → c = .decisionReq t
  divertDone : kind = 0x31 → pl.length = 1 → c = .divertDone t k
  divertMissed : kind = 0x32 → pl.length = 1 → c = .divertMissed t k
  toteFull : kind = 0x33 → pl.length = 1 → c = .toteFull k
  toteInPlace : ∀ b hi lo, kind = 0x34 → pl = [b, hi, lo] → c = .toteInPlace k (hi ++ lo)
  chuteJam : kind = 0x35 → pl.length = 1 → c = .chuteJam k
  chuteClear : kind = 0x36 → pl.length = 1 → c = .chuteClear k

/-- Every intact inbound frame is read by its layout, with the tray in the low 10 bits of its field, and the bits that no field
occupies are ignored (R143, R147, R148). -/
def InboundLayouts : Prop :=
  ∀ (bytes pl : List Byte) (kind hi lo : Byte) (t : Tray) (k : Chute), FrameOf bytes kind hi lo pl →
    t.val = (hi.toNat * 256 + lo.toNat) % 1024 → k.val = bitsAt pl 0 4 0 →
    LineCommand kind t pl (decodeFrame .line bytes) ∧
    (∀ p, StationCommand p kind t pl (decodeFrame (.station p) bytes)) ∧
    SorterCommand kind t pl k (decodeFrame .sorter bytes)

end Sys2Proof.Machine
end

