-- ==== Sys2Proof/WellFormed.lean ====
section
/-! DEFINITION. Which terms of Instr stand for a command that can arrive: the checks that the operand types do not make. -/

namespace Sys2Proof

/-- A management command's parameters fit an MGMT_CMD: at most 58 bytes (R148). -/
def paramsFit (params : List Byte) : Bool := params.length ≤ 58

/-- The target byte of a PORT_GO is that of row c. The row of code 0 also takes the PORT_GOs whose target names none (R128). -/
def targetIs (c : Nat) (params : List Byte) : Bool :=
  let t := (byteAt params 1).toNat
  if c == 0 then t == 0 || 6 < t else t == c

/-- The action byte of a CHUTE_CONTROL is that of row c. The row of code 0 also takes those whose action names none (R121). -/
def actionIs (c : Nat) (params : List Byte) : Bool :=
  let a := (byteAt params 1).toNat
  if c == 0 then a == 0 || 3 < a else a == c

/-- A code that names no command (R148). -/
def namesNoCommand (code : Byte) : Bool := code == 0 || 0x13 < code.toNat

/-- The well-formed commands. A FRAME_REJECTED carries bytes that fail a test of R145 at its port. -/
def WellFormed : Instr → Bool
  | .goDetach _ ps => paramsFit ps && targetIs 0 ps
  | .goListen _ ps => paramsFit ps && targetIs 1 ps
  | .goProbe _ ps => paramsFit ps && targetIs 2 ps
  | .goReady _ ps => paramsFit ps && targetIs 3 ps
  | .goPause _ ps => paramsFit ps && targetIs 4 ps
  | .goResume _ ps => paramsFit ps && targetIs 5 ps
  | .goListenToReady _ ps => paramsFit ps && targetIs 6 ps
  | .enable _ ps => paramsFit ps && actionIs 0 ps
  | .disable _ ps => paramsFit ps && actionIs 1 ps
  | .closeNow _ ps => paramsFit ps && actionIs 2 ps
  | .advance _ ps => paramsFit ps && actionIs 3 ps
  | .configure _ ps | .portConfig _ ps | .writeWeights _ ps | .writeProfile _ ps | .writeReasons _ ps
  | .writeWindow _ ps | .writeDefault _ ps | .chainLoad _ ps | .chainClear _ ps | .abandonTray _ ps
  | .readContext _ ps | .readChute _ ps | .readTable _ ps | .readStatus _ ps | .eventRoute _ ps
  | .ackAttention _ ps | .softReset _ ps => paramsFit ps
  | .badCommand _ code ps => paramsFit ps && namesNoCommand code
  | .frameRejected port bytes => (frameVerdict port bytes).isSome
  | .induct _ _ | .tableWrite
  | .obsDefect _ _ _ _ _ | .obsTag _ _ _ _ | .obsWeight _ _ _ | .itemDone _ _
  | .announce _ _ _ | .pauseAck _ | .resumeAck _ | .idle _
  | .probeWindowExpiry _ | .pauseTimeout _ | .resumeTimeout _
  | .takeDefectRecord _ | .takeTagRecord _ | .takeWeightRecord _ | .takeItemDoneRecord _
  | .gradingStart | .gradingCompletion
  | .decisionReq _ | .divertDone _ _ | .divertMissed _ _ | .orderExpiry _ _
  | .toteFull _ | .toteInPlace _ _ | .chuteJam _ | .chuteClear _
  | .entrySent | .portFrameSent _ | .linkUp _ | .linkDown _ | .powerOnReset => true

end Sys2Proof
end

