-- ==== Sys2Proof/Certificates/Slice0/Obligations.lean ====
section
/-! DEFINITION. The statements about the GD48 that the provers take. Each docstring names the rules it formalises. A
statement speaks of a shared operation of Machine/Ops.lean by name where another statement says what that operation does. -/

open Sys2Proof Sys2Proof.Machine

/-! ### The queue of commands, time, and reset -/

/-- A step takes the command at the front of the queue and executes it on the state with the queue's rest. -/
def Obligations.StepRunsFrontCommand : Prop :=
  ∀ (c : Instr) (rest : List Instr) (s : State), s.pending = c :: rest → step s = exec c { s with pending := rest }

/-- The model's choice of log entry 8, after R96 and R126: with no command waiting, a timer that has run out takes its effect, the
lowest port's first and then the first order's, and where none has one millisecond passes: running port timers and orders'
remaining times fall by 1, and an entry left on the wire is completed. -/
def Obligations.EmptyQueuePassesOneMillisecond : Prop :=
  ∀ s : State, s.pending = [] →
    let out := fun p : StationPort => (s.port p).timer = some 0 ∧
      ((s.port p).state = .probing ∨ (s.port p).state = .pausing ∨ (s.port p).state = .resuming)
    (∀ p, out p → (∀ q, q < p → ¬ out q) →
      ((s.port p).state = .probing → step s = exec (.probeWindowExpiry p) s) ∧
      ((s.port p).state = .pausing → step s = exec (.pauseTimeout p) s) ∧
      ((s.port p).state = .resuming → step s = exec (.resumeTimeout p) s)) ∧
    ((∀ p, ¬ out p) →
      (∀ pre o post, s.orders = pre ++ o :: post → o.remaining = 0 → (∀ x ∈ pre, x.remaining ≠ 0) →
        step s = exec (.orderExpiry o.tray o.chute) s) ∧
      ((∀ o ∈ s.orders, o.remaining ≠ 0) → ∃ ports : Vector PortRecord 8,
        step s = .next { s with
          ports := ports
          orders := s.orders.map (fun o => { o with remaining := o.remaining - 1 })
          lineFinishing := none } ∧
        ∀ p : StationPort, ports[p] = { s.port p with timer := (s.port p).timer.map (fun ms => ms - 1) }))

/-- Power-on reset, as a state and as a command (R156 and the reset rule of each chapter). The commands that wait are the
sender's and stay (log entry 17). -/
def Obligations.PowerOnResetLeavesEveryBlockAtPowerOn : Prop :=
  AtPowerOn State.reset ∧ State.reset.pending = [] ∧
  ∀ s : State, ∃ t, exec .powerOnReset s = .next t ∧ AtPowerOn t ∧ t.pending = s.pending

/-! ### The report unit and the management engine's phases -/

/-- An offered event goes by the route of its kind: discarded, or admitted with the dropped count while 8 entries are free, or
dropped and counted; the attention state is set by its route alone (R159, R164, R165). -/
def Obligations.OfferedEventIsRoutedAndCounted : Prop :=
  ∀ (a : Advisory) (s : State),
    (s.route a.kind = .off → s.offerEvent a = s) ∧
    (s.route a.kind = .frame → s.outbound.length ≤ 56 →
      s.offerEvent a = { s with outbound := s.outbound ++ [.event a s.dropped], dropped := 0 }) ∧
    (s.route a.kind = .frame → 56 < s.outbound.length →
      s.offerEvent a = { s with dropped := if s.dropped < 255 then s.dropped + 1 else 255 }) ∧
    (s.route a.kind = .frameAndAttention → s.outbound.length ≤ 56 →
      s.offerEvent a = { s with attention := true, outbound := s.outbound ++ [.event a s.dropped], dropped := 0 }) ∧
    (s.route a.kind = .frameAndAttention → 56 < s.outbound.length →
      s.offerEvent a = { s with attention := true, dropped := if s.dropped < 255 then s.dropped + 1 else 255 })

/-- The end of an execution phase offers the result, which enters a queue with room or waits in the engine; a result other than
OK carries no payload (R163, R171). A command that arrives while another is in progress is answered BUSY, or its BUSY result is
dropped and counted, and nothing else changes (R164, R165, R169). -/
def Obligations.ManagementResultAndBusyAnswer : Prop :=
  (∀ (s : State) (tag code : Byte) (params : List Byte) (r : ResultCode) (payload sent : List Byte),
      (r = .ok → sent = payload) → (r ≠ .ok → sent = []) →
      (s.outbound.length < 64 → s.finish tag code params r payload =
        { s with outbound := s.outbound ++ [.mgmt { tag := tag, code := code, result := r, payload := sent }],
                 command := none }) ∧
      (64 ≤ s.outbound.length → s.finish tag code params r payload =
        { s with command := some { tag := tag, code := code, params := params,
                                   phase := .result { tag := tag, code := code, result := r, payload := sent } } })) ∧
  (∀ (c : Instr) (tag code : Byte) (params : List Byte) (s : State),
      managementOf c = some (tag, code, params) → s.command ≠ none →
      (s.outbound.length ≤ 56 → exec c s =
        .next { s with outbound := s.outbound ++ [.mgmt { tag := tag, code := code, result := .busy, payload := [] }] }) ∧
      (56 < s.outbound.length → exec c s =
        .next { s with dropped := if s.dropped < 255 then s.dropped + 1 else 255 }))

/-- A management command whose parameters fail a check ends with BAD_PARAM, and a code that names none with BAD_COMMAND; no
other state changes (R106, R121, R127, R128, R160, R170, R173, R176, R178, R179, R181, R182). Each clause names parameters that
fail; those of the table writes and the addresses of READ_TABLE stand in the statements on them. Which row of PORT_GO and
CHUTE_CONTROL carries a malformed command is log entry 9. -/
def Obligations.MalformedCommandIsRefused : Prop :=
  ∀ (s : State) (tag : Byte) (params : List Byte), s.command = none →
    let badParam := fun (c : Instr) (code : Byte) => exec c s = .next (s.finish tag code params .badParam [])
    (∀ code : Byte, exec (.badCommand tag code params) s = .next (s.finish tag code params .badCommand [])) ∧
    (params.length ≠ 9 ∨ 31 < numAt params 1 ∨ 1 < numAt params 8 → badParam (.configure tag params) 0x01) ∧
    (params.length ≠ 2 ∨ 7 < numAt params 0 ∨ 3 < numAt params 1 → badParam (.portConfig tag params) 0x02) ∧
    (params.length ≠ 2 ∨ 7 < numAt params 0 →
      ∀ c ∈ [Instr.goDetach tag params, .goListen tag params, .goProbe tag params, .goReady tag params,
        .goPause tag params, .goResume tag params, .goListenToReady tag params], badParam c 0x03) ∧
    (6 < numAt params 1 → badParam (.goDetach tag params) 0x03) ∧
    (¬ ChainLoadFits params → badParam (.chainLoad tag params) 0x09) ∧
    (params.length ≠ 2 ∨ 31 < numAt params 0 →
      ∀ c ∈ [Instr.enable tag params, .disable tag params, .closeNow tag params, .advance tag params], badParam c 0x0B) ∧
    (3 < numAt params 1 → badParam (.enable tag params) 0x0B) ∧
    (params.length ≠ 1 ∨ 31 < numAt params 0 →
      badParam (.chainClear tag params) 0x0A ∧ badParam (.readChute tag params) 0x0E) ∧
    (params.length ≠ 2 ∨ 1023 < wordAt params 0 → badParam (.abandonTray tag params) 0x0C) ∧
    (params.length ≠ 3 ∨ 1023 < wordAt params 0 ∨ 2 < numAt params 2 → badParam (.readContext tag params) 0x0D) ∧
    (params.length ≠ 3 → badParam (.readTable tag params) 0x0F) ∧
    (params.length ≠ 2 ∨ numAt params 0 = 0 ∨ 12 < numAt params 0 ∨ 2 < numAt params 1 →
      badParam (.eventRoute tag params) 0x11) ∧
    (params ≠ [] →
      badParam (.readStatus tag params) 0x10 ∧ badParam (.ackAttention tag params) 0x12 ∧
      badParam (.softReset tag params) 0x13)

/-! ### The life of a context -/

/-- A context closes: its tray map entry is emptied, it leaves the grading queue, takes the report stamp, and its item result
enters a queue with room, the slot becoming FREE, or waits with the context in REPORTING (R1, R3, R163). The item result holds
the fields of the context that R157 names, each entry of the list as its code and points. The values of a FREE slot that the
manual gives none are log entry 5. -/
def Obligations.ClosedContextIsReported : Prop :=
  (∀ c : Context, c.itemResult =
    { tray := c.tray, orderRef := c.orderRef, category := c.category, tier := c.tier, season := c.season, size := c.size,
      reason := c.reason, outcome := c.outcome, grade := c.grade, score := c.score, causes := c.causes, target := c.target,
      delivery := c.delivery, laps := c.laps, late := c.late, overflow := c.overflow, ageUnknown := c.ageUnknown,
      weightUnchecked := c.weightUnchecked, exceptionRoute := c.exceptionRoute,
      observations := c.observations.map (fun o => (o.code, o.points)) }) ∧
  ∀ (s : State) (i : ContextIndex) (outcome : ItemOutcome) (delivery : Option Delivery),
    let c := s.context i
    let closed : Context :=
      { c with state := .reporting, outcome := some outcome, delivery := delivery, stamp := some s.stampCounter }
    let s1 : State := { s with
      gradingQueue := if c.state = .queued then s.gradingQueue.erase i else s.gradingQueue
      trayMap := s.trayMap.set c.tray none
      stampCounter := s.stampCounter + 1 }
    (s.outbound.length < 64 → s.closeContext i outcome delivery =
      { s1.modContext i (fun _ => {}) with outbound := s.outbound ++ [.item closed.itemResult] }) ∧
    (64 ≤ s.outbound.length → s.closeContext i outcome delivery = s1.modContext i (fun _ => closed))

/-- The withdrawal of a port leaves the expected ports of the OPEN contexts that expect it and have not its report, and no
other context changes; those left with every expected port reported seal in ascending order of index (R20, R21, R27). That a
seal into an idle grading unit starts the grading in its own step is the model's reading, log entry 1. -/
def Obligations.WithdrawalSealsCompletedContexts : Prop :=
  ∀ (s : State) (p : StationPort),
    let loses := fun i : ContextIndex => (s.context i).state = .opened ∧ portIn p (s.context i).expected = true ∧
      portIn p (s.context i).reported = false
    let seals := fun i : ContextIndex => loses i ∧
      ∀ q : StationPort, q ≠ p → portIn q (s.context i).expected = true → portIn q (s.context i).reported = true
    ∃ (sealed : List ContextIndex) (t : State),
      sealed.Pairwise (fun i j => i < j) ∧ (∀ i, i ∈ sealed ↔ seals i) ∧
      s.withdraw p = { s with contexts := t.contexts, gradingQueue := t.gradingQueue, inFlight := t.inFlight } ∧
      (∀ i, ¬ loses i → t.context i = s.context i) ∧
      (∀ i, loses i → ¬ seals i → t.context i = { s.context i with expected := portErase p (s.context i).expected }) ∧
      (∀ i, seals i → t.context i = { s.context i with
        expected := portErase p (s.context i).expected
        state := if i ∈ t.gradingQueue then .queued else .grading }) ∧
      (s.gradingQueue = [] → s.inFlight = none → t.gradingQueue = sealed.tail ∧
        t.inFlight = sealed.head?.map (fun i => { context := i, classes := s.detectedClasses })) ∧
      (s.gradingQueue ≠ [] ∨ s.inFlight ≠ none → t.gradingQueue = s.gradingQueue ++ sealed ∧ t.inFlight = s.inFlight)

/-! ### Induction and intake -/

/-- An INDUCT for a tray with an empty map entry opens a context in the lowest FREE slot, expecting the READY ports; with none
READY it seals at once (R6, R7, R11, R20, R27). The grading started by that seal is log entry 1. -/
def Obligations.InductOpensLowestFreeSlot : Prop :=
  ∀ (s : State) (t : Tray) (f : InductItem) (j : ContextIndex),
    t.val ≠ 1023 → s.lookup t = none → s.lowestFree j → ∃ u, exec (.induct t f) s = .next u ∧ OpensContext s j t f u

/-- An INDUCT for a tray whose context is OPEN, QUEUED or GRADED closes that one REPLACED and opens another in the slot that
was the lowest FREE one before; with no port READY the new one seals at once (R6, R8, R11, R20, R27). That the slot is chosen
before the old context closes is log entry 18; the grading that the seal starts in its own step is log entry 1. -/
def Obligations.InductReplacesEarlierContext : Prop :=
  ∀ (s : State) (t : Tray) (f : InductItem) (i j : ContextIndex),
    t.val ≠ 1023 → s.lookup t = some i →
    (s.context i).state = .opened ∨ (s.context i).state = .queued ∨ (s.context i).state = .graded → s.lowestFree j →
    ∃ u, exec (.induct t f) s = .next u ∧ OpensContext (s.closeContext i .replaced none) j t f u

/-- An INDUCT is refused NO_TRAY for tray 1023, TRAY_BUSY for a context in GRADING or ORDERED, and TABLE_FULL where no slot is
FREE, in that order of tests; only the event follows (R7, R9, R10). -/
def Obligations.InductIsRefused : Prop :=
  ∀ (s : State) (t : Tray) (f : InductItem),
    (t.val = 1023 → exec (.induct t f) s = .next (s.offerEvent (.inductRefused t .noTray))) ∧
    (∀ i, t.val ≠ 1023 → s.lookup t = some i → (s.context i).state = .grading ∨ (s.context i).state = .ordered →
      exec (.induct t f) s = .next (s.offerEvent (.inductRefused t .trayBusy))) ∧
    (t.val ≠ 1023 → (∀ i, s.lookup t = some i → (s.context i).state ≠ .grading ∧ (s.context i).state ≠ .ordered) →
      (∀ i, (s.context i).state ≠ .free) →
      exec (.induct t f) s = .next (s.offerEvent (.inductRefused t .tableFull)))

/-- A record that fails a routing test leaves its queue and is discarded with its event; only a LATE one changes a context, by
its late flag (R12, R141). What R186 lists as discarded is among them; the one context for which it is not is log entry 21. -/
def Obligations.TakenRecordIsDiscarded : Prop :=
  ∀ (s : State) (p : StationPort) (r : ObsRecord) (rest : List ObsRecord), (s.port p).inbound = r :: rest →
    let k := r.body.kind
    (s.lookup r.tray = none → exec (takeRow p k) s =
      .next ((s.afterLeave p rest).offerEvent (.obsDiscarded p r.tray .noContext k))) ∧
    (∀ i, s.lookup r.tray = some i → (s.context i).state ≠ .opened → exec (takeRow p k) s =
      .next (((s.afterLeave p rest).modContext i (fun c => { c with late := true })).offerEvent
        (.obsDiscarded p r.tray .late k))) ∧
    (∀ i, s.lookup r.tray = some i → (s.context i).state = .opened → portIn p (s.context i).expected = false →
      exec (takeRow p k) s = .next ((s.afterLeave p rest).offerEvent (.obsDiscarded p r.tray .unexpectedPort k))) ∧
    (∀ i, s.lookup r.tray = some i → (s.context i).state = .opened → portIn p (s.context i).expected = true →
      ((s.port p).detectedClass = .label ∧ k = .weight ∨ (s.port p).detectedClass = .vision ∧ (k = .tag ∨ k = .weight) ∨
        (s.port p).detectedClass = .scale ∧ (k = .defect ∨ k = .tag) ∨ (s.port p).detectedClass = .bench ∧ k = .weight) →
      exec (takeRow p k) s = .next ((s.afterLeave p rest).offerEvent (.obsDiscarded p r.tray .kindNotAllowed k)))

/-- A DEFECT record that passes the routing tests is priced from the tables as they stand and merged: into the entry of its
code, or at the end of the list, or, of a full list, in place of the smallest entry nearest the end (R13, R14, R15, R49). -/
def Obligations.DefectRecordIsPricedAndMerged : Prop :=
  ∀ (s : State) (p : StationPort) (i : ContextIndex) (t : Tray) (rest : List ObsRecord)
    (code : Fin 128) (zone : Fin 4) (extent : Fin 8) (z e : Nat) (set : Fin 16),
    (s.port p).inbound = { tray := t, body := .defect code zone extent } :: rest →
    s.lookup t = some i → (s.context i).state = .opened → portIn p (s.context i).expected = true →
    (s.port p).detectedClass ≠ .scale →
    ((s.port p).capability = .basic → z = s.settings.basicZone ∧ e = s.settings.basicExtent) →
    ((s.port p).capability = .extended →
      z = (if zone = 3 then 2 else zone.val) ∧ e = (if extent = 0 then 1 else if 4 < extent then 4 else extent.val)) →
    (s.profiles[(s.context i).category].valid = true → set = s.profiles[(s.context i).category].defectSet) →
    (s.profiles[(s.context i).category].valid = false → set = 0) →
    let c := s.context i
    let w := s.weights[set][code]
    let o : Observation :=
      { code := code, zone := z, extent := e, points := w.weight * 2 ^ z * e / 4, manual := w.manual }
    let becomes := fun c' : Context =>
      exec (.takeDefectRecord p) s = .next ((s.afterLeave p rest).modContext i (fun _ => c'))
    (∀ pre h post, c.observations = pre ++ h :: post → h.code = code → (∀ x ∈ pre ++ post, x.code ≠ code) →
      becomes { c with observations := pre ++
        (if h.points < o.points then { o with manual := h.manual || o.manual }
          else { h with manual := h.manual || o.manual }) :: post }) ∧
    ((∀ x ∈ c.observations, x.code ≠ code) → c.observations.length < 12 →
      becomes { c with observations := c.observations ++ [o] }) ∧
    (∀ pre x post, (∀ y ∈ c.observations, y.code ≠ code) → 12 ≤ c.observations.length →
      c.observations = pre ++ x :: post → (∀ y ∈ pre, x.points ≤ y.points) → (∀ y ∈ post, x.points < y.points) →
      (x.points < o.points → becomes { c with
        observations := pre ++ o :: post, overflow := true, manualDropped := c.manualDropped || x.manual }) ∧
      (o.points ≤ x.points → becomes { c with overflow := true, manualDropped := c.manualDropped || o.manual }))

/-- A WEIGHT record that passes the routing tests is clamped to 20,000 g and kept where the context holds none, or where it lies
further from a given catalogue weight, or, with none given, where it is larger (R16, R17). A TAG record makes tags present no where
it says absent, and yes only where it was absent; its mismatch flag can only set label mismatch (R18). -/
def Obligations.TagAndWeightRecordsMerge : Prop :=
  (∀ (s : State) (p : StationPort) (i : ContextIndex) (t : Tray) (rest : List ObsRecord) (grams : BitVec 16) (m : Nat),
      (s.port p).inbound = { tray := t, body := .weight grams } :: rest →
      s.lookup t = some i → (s.context i).state = .opened → portIn p (s.context i).expected = true →
      (s.port p).detectedClass = .scale → m = (if grams.toNat ≤ 20000 then grams.toNat else 20000) →
      let c := s.context i
      let becomes := fun c' : Context =>
        exec (.takeWeightRecord p) s = .next ((s.afterLeave p rest).modContext i (fun _ => c'))
      (c.measured = none → becomes { c with measured := some m }) ∧
      (∀ h : Nat, c.measured = some h → c.catalogue ≠ 0 →
        (((h : Int) - c.catalogue).natAbs < ((m : Int) - c.catalogue).natAbs → becomes { c with measured := some m }) ∧
        (((m : Int) - c.catalogue).natAbs ≤ ((h : Int) - c.catalogue).natAbs → becomes c)) ∧
      (∀ h : Nat, c.measured = some h → c.catalogue = 0 →
        (h < m → becomes { c with measured := some m }) ∧ (m ≤ h → becomes c))) ∧
  (∀ (s : State) (p : StationPort) (i : ContextIndex) (t : Tray) (rest : List ObsRecord) (present mismatch : Bool),
      (s.port p).inbound = { tray := t, body := .tag present mismatch } :: rest →
      s.lookup t = some i → (s.context i).state = .opened → portIn p (s.context i).expected = true →
      (s.port p).detectedClass = .label ∨ (s.port p).detectedClass = .bench →
      let c := s.context i
      exec (.takeTagRecord p) s = .next ((s.afterLeave p rest).modContext i (fun _ => { c with
        tags := if present = false then some false else if c.tags = none then some true else c.tags
        mismatch := if mismatch = true then true else c.mismatch })))

/-- An ITEM_DONE record that passes the routing tests adds its port to the reported ports, and the context seals when every
expected port is reported (R19, R20, R27). The grading started by the seal in its own step is log entry 1. -/
def Obligations.ItemDoneRecordReportsAndSeals : Prop :=
  ∀ (s : State) (p : StationPort) (i : ContextIndex) (t : Tray) (rest : List ObsRecord),
    (s.port p).inbound = { tray := t, body := .itemDone } :: rest →
    s.lookup t = some i → (s.context i).state = .opened → portIn p (s.context i).expected = true →
    ∃ reported : PortSet,
      (∀ q, portIn q reported = true ↔ q = p ∨ portIn q (s.context i).reported = true) ∧
      let c : Context := { s.context i with reported := reported }
      ((∀ q, portIn q c.expected = true → portIn q reported = true) →
        exec (.takeItemDoneRecord p) s = .next ((s.afterLeave p rest).withSealed i c)) ∧
      ((∃ q, portIn q c.expected = true ∧ portIn q reported = false) →
        exec (.takeItemDoneRecord p) s = .next ((s.afterLeave p rest).modContext i (fun _ => c)))

/-! ### Gradings -/

/-- The idle grading unit takes the head of a non-empty queue; a waiting table write is taken with no grading in flight, and
the next grading starts in its step, after it (R4, R27, R39, R54). A command waits with a write exactly where its code names a
table write and its bytes pass the checks, and it then writes what the write command itself writes with no grading in flight (R56,
R58, R60, R70, R72, R148). The order of the write and the next grading is log entry 2, the classes held log entry 3. -/
def Obligations.GradingAndWaitingWriteAreTaken : Prop :=
  (∀ (s : State) (i : ContextIndex) (rest : List ContextIndex), s.inFlight = none → s.gradingQueue = i :: rest →
    ∃ classes : Vector StationClass 8, (∀ p : StationPort, classes[p] = (s.port p).detectedClass) ∧
      exec .gradingStart s = .next ({ s with
        gradingQueue := rest
        inFlight := some { context := i, classes := classes } }.modContext i (fun c => { c with state := .grading })) ∧
      s.startGrading = { s with
        gradingQueue := rest
        inFlight := some { context := i, classes := classes } }.modContext i (fun c => { c with state := .grading })) ∧
  (∀ s : State, s.gradingQueue = [] ∨ s.inFlight ≠ none → s.startGrading = s) ∧
  (∀ (s : State) (tag code : Byte) (params : List Byte) (w : TableChange), s.inFlight = none →
    s.command = some { tag := tag, code := code, params := params, phase := .execution } →
    parseTableChange code params = some w →
    exec .tableWrite s = .next (((s.writeTable w).finish tag code params .ok w.payload).startGrading)) ∧
  (∀ (s : State) (tag code : Byte) (params : List Byte) (c : Instr),
    c ∈ [Instr.writeWeights tag params, .writeProfile tag params, .writeReasons tag params, .writeWindow tag params,
      .writeDefault tag params] →
    managementOf c = some (tag, code, params) → TableWriteFits code params →
    s.command = some { tag := tag, code := code, params := params, phase := .execution } →
    s.waitingWrite ≠ none ∧
    (s.inFlight = none → ∃ t, exec c { s with command := none } = .next t ∧ exec .tableWrite s = .next t.startGrading)) ∧
  (∀ s : State, (∀ cmd, s.command = some cmd → cmd.phase = .execution → ¬ TableWriteFits cmd.code cmd.params) →
    s.waitingWrite = none)

/-- A completion writes the score parts, causes, grade, target and flags whole and the context becomes GRADED; then the next
grading starts, or a waiting write is taken where the queue is empty, or both stay possible (R27, R43, R45, R54). Of a context
marked for abandon nothing is written: it closes ABANDONED, and the ABANDON_TRAY that waits ends OK after its item result
(R25, R46, R166, R176). What the completion leaves to the next command is log entries 1 and 2. -/
def Obligations.GradingCompletionWritesOrAbandons : Prop :=
  (∀ (s : State) (g : Grading), s.inFlight = some g → (s.context g.context).abandonMark = false →
      let c := s.context g.context
      let p := if s.profiles[c.category].valid then s.profiles[c.category] else {}
      let score := scoreOf p s.reasons[c.reason].toInt c
      let causes := causesOf p g.classes c
      let grade := gradeFor p causes score.total
      let s1 := { s with inFlight := none }.modContext g.context (fun _ => { c with
        state := .graded, score := score, causes := causes, grade := some grade, target := some (s.chooseTarget grade c),
        ageUnknown := (c.days.val == 1023), weightUnchecked := (c.measured == none || c.catalogue == 0) })
      (s.waitingWrite = none → exec .gradingCompletion s = .next s1.startGrading) ∧
      (∀ cmd w, s.waitingWrite = some (cmd, w) → s.gradingQueue = [] →
        exec .gradingCompletion s = .next ((s1.writeTable w).finish cmd.tag cmd.code cmd.params .ok w.payload)) ∧
      (s.waitingWrite ≠ none → s.gradingQueue = [] → exec .gradingCompletion s = exec .tableWrite s1) ∧
      (s.waitingWrite ≠ none → s.gradingQueue ≠ [] → exec .gradingCompletion s = .next s1)) ∧
  (∀ (s : State) (g : Grading) (tag : Byte) (params : List Byte), s.inFlight = some g →
      (s.context g.context).abandonMark = true →
      s.command = some { tag := tag, code := 0x0C, params := params, phase := .execution } →
      exec .gradingCompletion s = .next
        ((({ s with inFlight := none }.closeContext g.context .abandoned none).finish tag 0x0C params .ok
          [byteOf ((s.context g.context).tray.val / 256), byteOf (s.context g.context).tray.val]).startGrading))

/-- The score parts of a grading on the profile in force (R31, R33, R34, R35, R37, R38). -/
def Obligations.ScorePartsFollowTheStages : Prop :=
  ∀ (p : Profile) (reason : Int) (c : Context),
    let sc := scoreOf p reason c
    let sum := (c.observations.map Observation.points).sum
    (sum ≤ 4095 → sc.defect = sum) ∧ (4095 < sum → sc.defect = 4095) ∧
    (c.measured = none ∨ c.catalogue = 0 → sc.weight = 0) ∧
    (∀ m dev : Nat, c.measured = some m → 0 < c.catalogue →
      dev * c.catalogue ≤ ((m : Int) - c.catalogue).natAbs * 100 →
      ((m : Int) - c.catalogue).natAbs * 100 < (dev + 1) * c.catalogue →
      (dev ≤ p.tolerance → sc.weight = 0) ∧
      (p.tolerance < dev → p.tolerance ≤ 25 → sc.weight = if (dev - p.tolerance) * 8 ≤ 400 then (dev - p.tolerance) * 8
        else 400)) ∧
    (c.days.val = 1023 → sc.age = 0) ∧ (c.days.val ≤ p.allowance → sc.age = 0) ∧
    (∀ n : Nat, c.days.val ≠ 1023 → p.allowance + 10 * n < c.days.val → c.days.val ≤ p.allowance + 10 * (n + 1) →
      sc.age = if (n + 1) * p.rate ≤ p.cap then (n + 1) * p.rate else p.cap) ∧
    sc.tag = (if p.tagsRequired = true ∧ c.tags = some false then p.tagPoints else 0) ∧
    sc.reason = reason ∧
    (sc.total : Int) = max 0 (min 4095 (sc.defect + sc.weight + sc.age + sc.tag + reason))

/-- The forced causes, each by its own rule (R30, R32, R36, R39, R40); the grade is M with a forced cause, else the first of A to D
whose threshold the total does not pass, else Z (R41). -/
def Obligations.GradeFollowsCausesAndTotal : Prop :=
  (∀ (p : Profile) (classes : Vector StationClass 8) (c : Context),
      let k := causesOf p classes c
      (k.noProfile = true ↔ p.valid = false) ∧
      (k.manualDefect = true ↔ (∃ o ∈ c.observations, o.manual = true) ∨ c.manualDropped = true) ∧
      (k.labelMismatch = true ↔ c.mismatch = true) ∧
      (k.missingMandatory = true ↔ ∃ cl : StationClass, p.mandatory.getLsbD cl.code = true ∧
        ∀ q : StationPort, portIn q c.reported = true → classes[q] ≠ cl) ∧
      (k.observationLost = true ↔ ∃ q, portIn q c.lost = true)) ∧
  (∀ (p : Profile) (k : Causes) (total : Nat),
      (k ≠ {} → gradeFor p k total = .m) ∧
      (k = {} → total ≤ p.tA → gradeFor p k total = .a) ∧
      (k = {} → p.tA < total → total ≤ p.tB → gradeFor p k total = .b) ∧
      (k = {} → p.tA < total → p.tB < total → total ≤ p.tC → gradeFor p k total = .c) ∧
      (k = {} → p.tA < total → p.tB < total → p.tC < total → total ≤ p.tD → gradeFor p k total = .d) ∧
      (k = {} → p.tA < total → p.tB < total → p.tC < total → p.tD < total → gradeFor p k total = .z))

/-- The first window of the grade that matches supplies the target with its index, and the grade's default supplies it where none
does (R66). A SIZE target offers first chute + size band mod width alone; a FILL target offers its range in ascending order (R67,
R68). -/
def Obligations.MatcherSuppliesTargetAndCandidates : Prop :=
  (∀ (s : State) (g : Grade) (c : Context),
      (∀ i : Fin 8, WindowMatches s.windows[g.index][i] c →
        (∀ j : Fin 8, j < i → ¬ WindowMatches s.windows[g.index][j] c) →
        s.chooseTarget g c = { target := s.windows[g.index][i].target, window := some i }) ∧
      ((∀ i : Fin 8, ¬ WindowMatches s.windows[g.index][i] c) →
        s.chooseTarget g c = { target := s.defaults[g.index], window := none })) ∧
  (∀ (t : Target) (size : Fin 16), TargetSound t →
      (t.spread = .size → ∃ k : Chute, k.val = t.first.val + size.val % t.width ∧ t.candidates size = [k]) ∧
      (t.spread = .fill → (t.candidates size).length = t.width ∧
        ∀ (n : Nat) (h : n < (t.candidates size).length), ((t.candidates size)[n]).val = t.first.val + n))

/-! ### Table writes -/

/-- A valid WRITE_WEIGHTS taken with no grading in flight writes its run, each entry its weight and its mask bit, and no other
entry; the payload echoes set, first code and count (R54, R56, R57, R148). -/
def Obligations.WriteWeightsWritesItsRun : Prop :=
  ∀ (s : State) (tag setByte first count m3 m2 m1 m0 : Byte) (set : Fin 16) (ws : List Byte),
    s.command = none → s.inFlight = none → setByte.toNat = set.val → 1 ≤ count.toNat → count.toNat ≤ 32 →
    first.toNat + count.toNat ≤ 128 → ws.length = count.toNat →
    ∃ weights : Vector (Vector WeightEntry 128) 16,
      exec (.writeWeights tag (setByte :: first :: count :: m3 :: m2 :: m1 :: m0 :: ws)) s =
        .next ({ s with weights := weights }.finish tag 0x04 (setByte :: first :: count :: m3 :: m2 :: m1 :: m0 :: ws) .ok
          [setByte, first, count]) ∧
      ∀ (k : Fin 16) (c : Fin 128), weights[k][c] =
        if k = set ∧ first.toNat ≤ c.val ∧ c.val < first.toNat + count.toNat then
          { weight := (ws.getD (c.val - first.toNat) 0).toNat
            manual := (m3 ++ m2 ++ m1 ++ m0).getLsbD (c.val - first.toNat) }
        else s.weights[k][c]

/-- With no grading in flight a valid WRITE_PROFILE writes the entry of its category: every field as carried, or with the valid flag
clear the zero profile, whatever else it carries (R58, R59, R177). A valid WRITE_REASONS writes all sixteen entries, reason 0
first; a valid WRITE_WINDOW writes its window, or disables it with the blank values; a valid WRITE_DEFAULT writes its grade's
default target (R60, R70, R71, R72, R177). -/
def Obligations.ProfilesReasonsAndTargetsAreWritten : Prop :=
  (∀ (s : State) (tag cat : Byte) (c : Fin 64), s.command = none → s.inFlight = none → cat.toNat = c.val →
      (∀ params : List Byte, params = [cat, 0] ∨ (∃ rest : List Byte, rest.length = 18 ∧ params = cat :: 0 :: rest) →
        exec (.writeProfile tag params) s =
          .next ({ s with profiles := s.profiles.set c {} }.finish tag 0x05 params .ok [cat, 0])) ∧
      (∀ (set mandatory a1 a0 b1 b0 c1 c0 d1 d0 tol al1 al0 rate cap1 cap0 req points : Byte) (st : Fin 16) (r : Bool),
        set.toNat = st.val → req.toNat = r.toNat → mandatory.toNat < 16 →
        (a1 ++ a0).toNat ≤ (b1 ++ b0).toNat → (b1 ++ b0).toNat ≤ (c1 ++ c0).toNat → (c1 ++ c0).toNat ≤ (d1 ++ d0).toNat →
        (d1 ++ d0).toNat ≤ 4095 → tol.toNat ≤ 25 → (al1 ++ al0).toNat ≤ 365 → rate.toNat ≤ 50 → (cap1 ++ cap0).toNat ≤ 1000 →
        let params := [cat, 1, set, mandatory, a1, a0, b1, b0, c1, c0, d1, d0, tol, al1, al0, rate, cap1, cap0, req, points]
        let profile : Profile :=
          { valid := true, defectSet := st, mandatory := mandatory.setWidth 4, tA := (a1 ++ a0).toNat,
            tB := (b1 ++ b0).toNat, tC := (c1 ++ c0).toNat, tD := (d1 ++ d0).toNat, tolerance := tol.toNat,
            allowance := (al1 ++ al0).toNat, rate := rate.toNat, cap := (cap1 ++ cap0).toNat, tagsRequired := r,
            tagPoints := points.toNat }
        exec (.writeProfile tag params) s =
          .next ({ s with profiles := s.profiles.set c profile }.finish tag 0x05 params .ok [cat, 1]))) ∧
  (∀ (s : State) (tag grade : Byte) (g : Grade), s.command = none → s.inFlight = none → grade.toNat = g.index.val + 1 →
      (∀ params : List Byte, params.length = 16 → ∃ reasons : Vector (BitVec 8) 16,
        (∀ r : Fin 16, reasons[r] = params.getD r.val 0) ∧
        exec (.writeReasons tag params) s = .next ({ s with reasons := reasons }.finish tag 0x06 params .ok [])) ∧
      (∀ (index : Byte) (i : Fin 8) (params : List Byte), index.toNat = i.val →
        params = [grade, index, 0] ∨ (∃ rest : List Byte, rest.length = 10 ∧ params = grade :: index :: 0 :: rest) →
        exec (.writeWindow tag params) s =
          .next ({ s with windows := s.windows.set g.index (s.windows[g.index].set i {}) }.finish tag 0x07 params .ok
            [grade, index, 0])) ∧
      (∀ (cls first width spread : Byte) (k : DispositionClass) (f : Chute) (sp : Spread), cls.toNat = k.code →
        first.toNat = f.val → spread.toNat = sp.code → 1 ≤ width.toNat → width.toNat ≤ 8 →
        first.toNat + width.toNat ≤ 32 →
        let target : Target := { cls := k, first := f, width := width.toNat, spread := sp }
        exec (.writeDefault tag [grade, cls, first, width, spread]) s =
          .next ({ s with defaults := s.defaults.set g.index target }.finish tag 0x08 [grade, cls, first, width, spread] .ok
            [grade]) ∧
        ∀ (index cat tiers lo hi r1 r0 : Byte) (i : Fin 8) (category : Option (Fin 64)) (l h : Fin 16),
          index.toNat = i.val → (cat = 255 ∧ category = none ∨ ∃ c : Fin 64, cat.toNat = c.val ∧ category = some c) →
          lo.toNat = l.val → hi.toNat = h.val → l ≤ h → tiers ≠ 0 → (r1 ++ r0).toNat ≠ 0 →
          let params := [grade, index, 1, cat, tiers, lo, hi, r1, r0, cls, first, width, spread]
          let window : Window :=
            { enabled := true, category := category, tiers := tiers, lo := l, hi := h, reasons := r1 ++ r0, target := target }
          exec (.writeWindow tag params) s =
            .next ({ s with windows := s.windows.set g.index (s.windows[g.index].set i window) }.finish tag 0x07 params .ok
              [grade, index, 1])))

/-- A table write whose parameter bytes fail a check ends BAD_PARAM with no table changed; one that passes them while a grading is
in flight waits in its execution phase with nothing written (R54, R56, R58, R60, R70, R72, R148, R177). -/
def Obligations.TableWriteIsRefusedOrWaits : Prop :=
  ∀ (s : State) (tag : Byte) (params : List Byte), s.command = none →
    let follows := fun (c : Instr) (code : Byte) (fits : Prop) =>
      (¬ fits → exec c s = .next (s.finish tag code params .badParam [])) ∧
      (fits → s.inFlight ≠ none → exec c s =
        .next { s with command := some { tag := tag, code := code, params := params, phase := .execution } })
    follows (.writeWeights tag params) 0x04 (WeightsFit params) ∧
    follows (.writeProfile tag params) 0x05 (ProfileFits params) ∧
    follows (.writeReasons tag params) 0x06 (params.length = 16) ∧
    follows (.writeWindow tag params) 0x07 (WindowFits params) ∧
    follows (.writeDefault tag params) 0x08 (DefaultFits params)

/-! ### Station ports -/

/-- PORT_CONFIG writes the expected class of a DETACHED port and no other field, and is refused in any other state (R127). -/
def Obligations.PortConfigWritesExpectedClass : Prop :=
  ∀ (s : State) (tag port cls : Byte) (p : StationPort) (k : StationClass), s.command = none → port.toNat = p.val →
    cls.toNat = k.code →
    ((s.port p).state = .detached → exec (.portConfig tag [port, cls]) s =
      .next ((s.modPort p (fun P => { P with expectedClass := k })).finish tag 0x02 [port, cls] .ok [port, cls])) ∧
    ((s.port p).state ≠ .detached → exec (.portConfig tag [port, cls]) s =
      .next (s.finish tag 0x02 [port, cls] .refusedState []))

/-- The Go targets other than GoDetach take their first step from the states allowed for them, and in any other state, or
while the port waits for an answer or its compound runs, are refused with nothing changed (R126, R128, R130, R176). -/
def Obligations.GoTargetTakesItsFirstStepOrIsRefused : Prop :=
  ∀ (s : State) (tag port : Byte) (p : StationPort), s.command = none → port.toNat = p.val →
    let P := s.port p
    let ok := fun (target after : Byte) (t : State) =>
      Host.Outcome.next (σ := State) (φ := Fault) (ρ := Refusal)
        (t.finish tag 0x03 [port, target] .ok [port, target, after])
    let refused := fun (target : Byte) =>
      Host.Outcome.next (σ := State) (φ := Fault) (ρ := Refusal) (s.finish tag 0x03 [port, target] .refusedState [])
    let listening := s.modPort p (fun P => { P with
      state := .listening, faultCause := none, timer := none, hold := false })
    (if P.compound = false ∧ (P.state = .detached ∨ P.state = .fault)
      then exec (.goListen tag [port, 1]) s = ok 1 1 listening
      else exec (.goListen tag [port, 1]) s = refused 1) ∧
    (if P.compound = false ∧ (P.state = .attached ∨ P.state = .probed)
      then exec (.goProbe tag [port, 2]) s =
        ok 2 3 ((s.modPort p (fun P => { P with state := .probing, timer := some 25 })).sendStation p .probe)
      else exec (.goProbe tag [port, 2]) s = refused 2) ∧
    (if P.compound = false ∧ P.state = .probed
      then exec (.goReady tag [port, 3]) s = ok 3 5 (s.modPort p (fun P => { P with state := .ready }))
      else exec (.goReady tag [port, 3]) s = refused 3) ∧
    (if P.compound = false ∧ P.state = .ready
      then exec (.goPause tag [port, 4]) s =
        ok 4 6 ((s.modPort p (fun P => { P with state := .pausing, timer := some 500 })).sendStation p .pause)
      else exec (.goPause tag [port, 4]) s = refused 4) ∧
    (if P.compound = false ∧ P.state = .paused
      then exec (.goResume tag [port, 5]) s =
        ok 5 8 ((s.modPort p (fun P => { P with state := .resuming, timer := some 100 })).sendStation p .resume)
      else exec (.goResume tag [port, 5]) s = refused 5) ∧
    (if P.compound = false ∧ (P.state = .detached ∨ P.state = .fault)
      then exec (.goListenToReady tag [port, 6]) s = ok 6 1 (listening.modPort p (fun P => { P with compound := true }))
      else if P.compound = false ∧ P.state = .listening
      then exec (.goListenToReady tag [port, 6]) s = ok 6 1 (s.modPort p (fun P => { P with compound := true }))
      else if P.compound = false ∧ P.state = .attached
      then exec (.goListenToReady tag [port, 6]) s = ok 6 3 ((s.modPort p (fun P => { P with
        compound := true, state := .probing, timer := some 25 })).sendStation p .probe)
      else exec (.goListenToReady tag [port, 6]) s = refused 6)

/-- GoDetach takes a port to DETACHED from any state: timer stopped, fault cause none, HOLD clear, compound cancelled with its
event, and a READY or PAUSING port withdrawn. The inbound queue is kept; frames that wait behind the one being sent are not
sent (log entry 4). Of a DETACHED port nothing changes (R129, R139). -/
def Obligations.GoDetachTakesAnyPortToDetached : Prop :=
  ∀ (s : State) (tag port : Byte) (p : StationPort), s.command = none → port.toNat = p.val →
    let P := s.port p
    let sending := if s.stationLinks[p] = .up then s.stationTx[p].take 1 else []
    let s1 : State := { s with stationTx := s.stationTx.set p sending }.modPort p (fun P => { P with
      state := .detached, timer := none, compound := false, faultCause := none, hold := false })
    let s2 := if P.compound = true then s1.offerEvent (.portEvent p .compoundCancelled) else s1
    let s3 := if P.state = .ready ∨ P.state = .pausing then s2.withdraw p else s2
    exec (.goDetach tag [port, 0]) s =
      .next ((if P.state = .detached then s else s3).finish tag 0x03 [port, 0] .ok [port, 0, 0])

/-- A DETACHED port takes no station frame. The first valid one in LISTENING attaches the port and is not acted on further, and a
pending compound sends PROBE at once. In the other states IDLE has no effect and an answer that the port does not await is
ignored (R130, R131, R154). -/
def Obligations.StationFrameIsTakenByPortState : Prop :=
  ∀ (c : Instr) (s : State) (p : StationPort), stationOf c = some p →
    let attached := (s.modPort p (fun P => { P with state := .attached })).offerEvent (.portEvent p .attached)
    ((s.port p).state = .detached → exec c s = .next s) ∧
    ((s.port p).state = .listening → (s.port p).compound = false → exec c s = .next attached) ∧
    ((s.port p).state = .listening → (s.port p).compound = true → exec c s =
      .next ((attached.modPort p (fun P => { P with state := .probing, timer := some 25 })).sendStation p .probe)) ∧
    ((s.port p).state ≠ .listening → c = .idle p → exec c s = .next s) ∧
    ((s.port p).state ≠ .listening → (s.port p).state ≠ .probing → ∀ cls cap, c = .announce p cls cap →
      exec c s = .next s) ∧
    ((s.port p).state ≠ .listening → (s.port p).state ≠ .pausing → c = .pauseAck p → exec c s = .next s) ∧
    ((s.port p).state ≠ .listening → (s.port p).state ≠ .resuming → c = .resumeAck p → exec c s = .next s)

/-- A queued frame taken in any state but DETACHED and LISTENING joins a queue with room, and HOLD is sent at the threshold; at a
full queue it is dropped with QUEUE_OVERRUN, and the port joins the lost ports of an OPEN context that expects it (R23, R140,
R141). -/
def Obligations.ObservationJoinsOrOverruns : Prop :=
  ∀ (c : Instr) (s : State) (p : StationPort) (r : ObsRecord), queuedOf c = some (p, r) →
    (s.port p).state ≠ .detached → (s.port p).state ≠ .listening →
    let joined := s.modPort p (fun P => { P with inbound := P.inbound ++ [r] })
    let overrun := s.offerEvent (.queueOverrun p r.tray r.body.kind)
    ((s.port p).inbound.length < 16 →
      ((s.port p).hold = false → s.settings.holdThreshold ≤ (s.port p).inbound.length + 1 →
        exec c s = .next ((joined.modPort p (fun P => { P with hold := true })).sendStation p .hold)) ∧
      ((s.port p).hold = true ∨ (s.port p).inbound.length + 1 < s.settings.holdThreshold → exec c s = .next joined)) ∧
    (16 ≤ (s.port p).inbound.length →
      (∀ i, s.lookup r.tray = some i → (s.context i).state = .opened → portIn p (s.context i).expected = true →
        ∃ lost : PortSet, (∀ q, portIn q lost = true ↔ q = p ∨ portIn q (s.context i).lost = true) ∧
          exec c s = .next (overrun.modContext i (fun x => { x with lost := lost }))) ∧
      ((∀ i, s.lookup r.tray = some i →
          (s.context i).state ≠ .opened ∨ portIn p (s.context i).expected = false) → exec c s = .next overrun))

/-- A probe ends by an ANNOUNCE of the expected class, or by its window running out as the expected class and BASIC: PROBED,
and on to READY where the compound is pending. An ANNOUNCE of any other class takes the port to FAULT (R130, R132, R134,
R138). A pause ends by PAUSE_ACK or by force, either way PAUSED and withdrawn; a resume ends READY by RESUME_ACK, or in FAULT
when its time runs out (R135, R136, R138, R139). A timer runs out with no time left (R126), and in every other state its row
changes nothing (log entries 7 and 15). -/
def Obligations.StationAnswersAndTimeouts : Prop :=
  (∀ (s : State) (p : StationPort) (cls cap : Byte), (s.port p).state = .probing →
      let k := (s.port p).expectedClass
      let probed := fun (c : Capability) (defaulted : Bool) =>
        let s1 := (s.modPort p (fun P => { P with
          state := .probed, timer := none, detectedClass := k, capability := c })).offerEvent
            (.portEvent p (.probed k c defaulted))
        if (s.port p).compound = true then
          (s1.modPort p (fun P => { P with state := .ready, compound := false })).offerEvent (.portEvent p .ready)
        else s1
      (cls.toNat = k.code → cap = 1 → exec (.announce p cls cap) s = .next (probed .extended false)) ∧
      (cls.toNat = k.code → cap ≠ 1 → exec (.announce p cls cap) s = .next (probed .basic false)) ∧
      (cls.toNat ≠ k.code → exec (.announce p cls cap) s = .next (((s.modPort p (fun P => { P with
        state := .fault, timer := none, compound := false, faultCause := some .classMismatch })).offerEvent
          (.portEvent p (.faultMismatch cls))).withdraw p)) ∧
      ((s.port p).timer = some 0 → exec (.probeWindowExpiry p) s = .next (probed .basic true))) ∧
  (∀ (s : State) (p : StationPort),
      ((s.port p).state = .pausing →
        let paused := s.modPort p (fun P => { P with state := .paused, timer := none })
        exec (.pauseAck p) s = .next ((paused.offerEvent (.portEvent p .paused)).withdraw p) ∧
        ((s.port p).timer = some 0 →
          exec (.pauseTimeout p) s = .next ((paused.offerEvent (.portEvent p .pauseForced)).withdraw p))) ∧
      ((s.port p).state = .resuming →
        exec (.resumeAck p) s = .next ((s.modPort p (fun P => { P with state := .ready, timer := none })).offerEvent
          (.portEvent p .resumed)) ∧
        ((s.port p).timer = some 0 → exec (.resumeTimeout p) s = .next (((s.modPort p (fun P => { P with
          state := .fault, timer := none, compound := false, faultCause := some .noResume })).offerEvent
            (.portEvent p .faultNoResume)).withdraw p)))) ∧
  (∀ (s : State) (p : StationPort),
      ((s.port p).timer ≠ some 0 ∨ (s.port p).state ≠ .probing → exec (.probeWindowExpiry p) s = .next s) ∧
      ((s.port p).timer ≠ some 0 ∨ (s.port p).state ≠ .pausing → exec (.pauseTimeout p) s = .next s) ∧
      ((s.port p).timer ≠ some 0 ∨ (s.port p).state ≠ .resuming → exec (.resumeTimeout p) s = .next s))

/-! ### Chutes and totes -/

/-- A tote closes: its record enters the queue and its descriptor becomes FREE, or record and CLOSED descriptor wait; the chute
goes to SWAPPING on the next tote of its chain, or to EXHAUSTED, by the continue flag and the chain (R108, R117, R118, R158). -/
def Obligations.ClosedToteHandsOverTheChute : Prop :=
  ∀ (s : State) (k : Chute) (cause : CloseCause) (d : DescriptorIndex), (s.chute k).active = some d →
    let D := s.descriptor d
    let record : ToteRecord :=
      { chute := k, toteId := D.readId, items := D.committedItems, grams := D.committedGrams,
        residue := D.capacity - D.committedItems, strays := D.strays, cause := cause }
    let s1 : State :=
      if s.outbound.length < 64 then
        State.modDescriptor { s with outbound := s.outbound ++ [.tote record] } d (fun _ => {})
      else State.modDescriptor { s with waitingTotes := s.waitingTotes ++ [{ descriptor := d, record := record }] } d
        (fun D => { D with state := .closed, closeCause := some cause })
    (∀ h rest, D.continueFlag = true → (s.chute k).chain = h :: rest → s.closeTote k cause =
      (s1.modChute k (fun c => { c with
        state := .swapping, pending := some h, active := none, chain := rest, pendingCause := none })).offerEvent
          (.chuteEvent k .swapping)) ∧
    (D.continueFlag = false ∨ (s.chute k).chain = [] → s.closeTote k cause =
      (s1.modChute k (fun c => { c with state := .exhausted, active := none, pendingCause := none })).offerEvent
        (.chuteEvent k .exhausted))

/-- An order is settled: its entry is removed and its reservation released or committed on its descriptor; a commit that reaches
the capacity closes the tote, and so does the settling of a CLOSING chute's last order (R78, R111, R112, R113, R116). -/
def Obligations.SettledOrderIsReleasedOrCommitted : Prop :=
  ∀ (s : State) (o : DivertOrder),
    let k := o.chute
    let left := (s.orders.erase o).countP (fun x => x.chute = k)
    let released := { s with orders := s.orders.erase o }.modDescriptor o.descriptor (fun D => { D with
      reservedItems := D.reservedItems - 1, reservedGrams := D.reservedGrams - o.grams })
    let committed := released.modDescriptor o.descriptor (fun D => { D with
      committedItems := D.committedItems + 1, committedGrams := D.committedGrams + o.grams })
    let full := (s.descriptor o.descriptor).committedItems + 1 = (s.descriptor o.descriptor).capacity
    ((s.chute k).state ≠ .closing ∨ left ≠ 0 → s.settleRelease o = released) ∧
    (∀ cause, (s.chute k).state = .closing → (s.chute k).pendingCause = some cause → left = 0 →
      s.settleRelease o = released.closeTote k cause) ∧
    (¬ full → (s.chute k).state ≠ .closing ∨ left ≠ 0 → s.settleCommit o = committed) ∧
    (full → (s.chute k).state = .opened → s.settleCommit o = committed.closeTote k .count) ∧
    (∀ cause, (s.chute k).state = .closing → (s.chute k).pendingCause = some cause → full ∨ left = 0 →
      s.settleCommit o = committed.closeTote k cause)

/-- CHAIN_LOAD with parameter bytes that pass its checks takes the lowest FREE descriptors in entry order, links each to the
next and the former last of the sequence to the first, appends them to the chain, and starts an UNCONFIGURED or EXHAUSTED chute;
with too few FREE it is refused NO_SPACE (R104, R106, R107, R108). The last premise is part of R104, which TotesSound states. -/
def Obligations.ChainLoadAppendsTotes : Prop :=
  ∀ (s : State) (tag : Byte) (params : List Byte) (k : Chute) (count : Nat), s.command = none →
    ChainLoadFits params → numAt params 0 = k.val → numAt params 1 = count →
    (∀ d, (s.chute k).lastOfSequence = some d → (s.descriptor d).state ≠ .free) →
    s.freeDescriptors.Pairwise (fun d e => d < e) ∧ (∀ d, d ∈ s.freeDescriptors ↔ (s.descriptor d).state = .free) ∧
    (s.freeDescriptors.length < count →
      exec (.chainLoad tag params) s = .next (s.finish tag 0x09 params .noSpace [])) ∧
    (count ≤ s.freeDescriptors.length → ∃ store : Vector Descriptor 128,
      let ds := s.freeDescriptors.take count
      (∀ (n : Nat) (h : n < ds.length), store[ds[n]] =
        { state := .queued, toteId := params.getD (2 + 6 * n) 0 ++ params.getD (3 + 6 * n) 0,
          capacity := numAt params (4 + 6 * n), weightLimit := wordAt params (5 + 6 * n),
          continueFlag := (numAt params (7 + 6 * n) == 1), next := ds[n + 1]?, committedItems := 0, committedGrams := 0,
          reservedItems := 0, reservedGrams := 0, readId := 0, strays := 0, closeCause := none }) ∧
      (∀ d : DescriptorIndex, d ∉ ds → store[d] =
        if (s.chute k).lastOfSequence = some d then { s.descriptor d with next := ds.head? } else s.descriptor d) ∧
      let payload := byteOf k.val :: byteOf count :: ds.map (fun d => byteOf d.val)
      (∀ h rest, (s.chute k).state = .unconfigured ∨ (s.chute k).state = .exhausted → (s.chute k).chain ++ ds = h :: rest →
        exec (.chainLoad tag params) s = .next (((State.modChute { s with descriptors := store } k (fun c => { c with
          state := .swapping, pending := some h, active := none, chain := rest, pendingCause := none })).offerEvent
            (.chuteEvent k .swapping)).finish tag 0x09 params .ok payload)) ∧
      ((s.chute k).state ≠ .unconfigured → (s.chute k).state ≠ .exhausted →
        exec (.chainLoad tag params) s = .next ((State.modChute { s with descriptors := store } k (fun c => { c with
          chain := c.chain ++ ds })).finish tag 0x09 params .ok payload)))

/-- CHAIN_CLEAR is refused while an order is outstanding for the chute. Else the tote in place closes CLEARED, the pending and
queued descriptors become FREE, and the chute becomes UNCONFIGURED, with its event if the state changed (R117, R118, R120). -/
def Obligations.ChainClearFreesTheChain : Prop :=
  ∀ (s : State) (tag chute : Byte) (k : Chute), s.command = none → chute.toNat = k.val →
    (s.ordersAt k ≠ 0 → exec (.chainClear tag [chute]) s = .next (s.finish tag 0x0A [chute] .refusedState [])) ∧
    (s.ordersAt k = 0 → ∃ u v : State, exec (.chainClear tag [chute]) s = .next (v.finish tag 0x0A [chute] .ok [chute]) ∧
      u = { s with chutes := u.chutes, descriptors := u.descriptors, outbound := u.outbound,
                   waitingTotes := u.waitingTotes } ∧
      (∀ j, j ≠ k → u.chute j = s.chute j) ∧
      u.chute k = { state := .unconfigured, disabled := (s.chute k).disabled, jammed := (s.chute k).jammed,
                    pending := none, active := none, chain := [], pendingCause := none } ∧
      (∀ d, (s.chute k).active ≠ some d → u.descriptor d =
        if (s.chute k).pending = some d ∨ d ∈ (s.chute k).chain then {} else s.descriptor d) ∧
      ((s.chute k).active = none → u.outbound = s.outbound ∧ u.waitingTotes = s.waitingTotes) ∧
      (∀ d, (s.chute k).active = some d →
        let D := s.descriptor d
        let record : ToteRecord :=
          { chute := k, toteId := D.readId, items := D.committedItems, grams := D.committedGrams,
            residue := D.capacity - D.committedItems, strays := D.strays, cause := .cleared }
        (s.outbound.length < 64 → u.descriptor d = {} ∧ u.outbound = s.outbound ++ [OutFrame.tote record] ∧
          u.waitingTotes = s.waitingTotes) ∧
        (64 ≤ s.outbound.length → (s.chute k).pending ≠ some d → d ∉ (s.chute k).chain →
          u.descriptor d = { D with state := .closed, closeCause := some .cleared } ∧ u.outbound = s.outbound ∧
          u.waitingTotes = s.waitingTotes ++ [{ descriptor := d, record := record }])) ∧
      v = if (s.chute k).state = .unconfigured then u else u.offerEvent (.chuteEvent k .unconfigured))

/-- ENABLE, DISABLE, CHUTE_JAM and CHUTE_CLEAR write one flag of the chute in any state; the sorter's two signals offer their
event whatever the flag held (R121, R122, R176). -/
def Obligations.ChuteFlagsAreWrittenInAnyState : Prop :=
  ∀ (s : State) (k : Chute),
    (∀ tag chute : Byte, s.command = none → chute.toNat = k.val →
      exec (.enable tag [chute, 0]) s = .next ((s.modChute k (fun c => { c with disabled := false })).finish tag 0x0B
        [chute, 0] .ok [chute, 0, byteOf (s.chute k).state.code]) ∧
      exec (.disable tag [chute, 1]) s = .next ((s.modChute k (fun c => { c with disabled := true })).finish tag 0x0B
        [chute, 1] .ok [chute, 1, byteOf (s.chute k).state.code])) ∧
    (s.sorterLink = .up →
      exec (.chuteJam k) s = .next ((s.modChute k (fun c => { c with jammed := true })).offerEvent
        (.chuteEvent k .jammed)) ∧
      exec (.chuteClear k) s = .next ((s.modChute k (fun c => { c with jammed := false })).offerEvent
        (.chuteEvent k .jamCleared)))

/-- TOTE_FULL and CLOSE_NOW close an OPEN chute's tote at once with no order outstanding, and make it CLOSING with orders
outstanding; in any other state TOTE_FULL is ignored with its event and CLOSE_NOW is refused (R114, R115). -/
def Obligations.CloseIsCalledOnAnOpenChute : Prop :=
  ∀ (s : State) (k : Chute),
    let closing := fun cause : CloseCause => (s.modChute k (fun c => { c with
      state := .closing, pendingCause := some cause })).offerEvent (.chuteEvent k .closing)
    (s.sorterLink = .up →
      ((s.chute k).state = .opened → s.ordersAt k = 0 → exec (.toteFull k) s = .next (s.closeTote k .fullSignal)) ∧
      ((s.chute k).state = .opened → s.ordersAt k ≠ 0 → exec (.toteFull k) s = .next (closing .fullSignal)) ∧
      ((s.chute k).state ≠ .opened → exec (.toteFull k) s = .next (s.offerEvent (.chuteEvent k .fullIgnored)))) ∧
    ∀ tag chute : Byte, s.command = none → chute.toNat = k.val →
      ((s.chute k).state = .opened → s.ordersAt k = 0 → exec (.closeNow tag [chute, 2]) s =
        .next ((s.closeTote k .forced).finish tag 0x0B [chute, 2] .ok
          [chute, 2, byteOf ((s.closeTote k .forced).chute k).state.code])) ∧
      ((s.chute k).state = .opened → s.ordersAt k ≠ 0 → exec (.closeNow tag [chute, 2]) s =
        .next ((closing .forced).finish tag 0x0B [chute, 2] .ok [chute, 2, 3])) ∧
      ((s.chute k).state ≠ .opened → exec (.closeNow tag [chute, 2]) s =
        .next (s.finish tag 0x0B [chute, 2] .refusedState []))

/-- A chute leaves EXHAUSTED by ADVANCE, onto the head of its kept chain, and SWAPPING by a TOTE_IN_PLACE whose id matches; a
wrong id is reported, and the other states ignore the signal or refuse the command (R108, R109, R119). -/
def Obligations.NextToteIsAdvancedAndPlaced : Prop :=
  ∀ (s : State) (k : Chute),
    (∀ tag chute : Byte, s.command = none → chute.toNat = k.val →
      (∀ h rest, (s.chute k).state = .exhausted → (s.chute k).chain = h :: rest →
        exec (.advance tag [chute, 3]) s = .next (((s.modChute k (fun c => { c with
          state := .swapping, pending := some h, active := none, chain := rest, pendingCause := none })).offerEvent
            (.chuteEvent k .swapping)).finish tag 0x0B [chute, 3] .ok [chute, 3, 1])) ∧
      ((s.chute k).state ≠ .exhausted ∨ (s.chute k).chain = [] →
        exec (.advance tag [chute, 3]) s = .next (s.finish tag 0x0B [chute, 3] .refusedState []))) ∧
    (∀ (x : BitVec 16) (d : DescriptorIndex), s.sorterLink = .up → (s.chute k).state = .swapping → (s.chute k).pending = some d →
      (x ≠ 0 → (s.descriptor d).toteId = 0 ∨ (s.descriptor d).toteId = x →
        exec (.toteInPlace k x) s = .next (((s.modDescriptor d (fun D => { D with
          state := .active, committedItems := 0, committedGrams := 0, reservedItems := 0, reservedGrams := 0, strays := 0,
          readId := x })).modChute k (fun c => { c with
            state := .opened, active := some d, pending := none })).offerEvent (.chuteEvent k .opened))) ∧
      (x = 0 ∨ (s.descriptor d).toteId ≠ 0 ∧ (s.descriptor d).toteId ≠ x →
        exec (.toteInPlace k x) s = .next (s.offerEvent (.chuteEvent k (.toteMismatch x))))) ∧
    (∀ x : BitVec 16, s.sorterLink = .up → (s.chute k).state ≠ .swapping → exec (.toteInPlace k x) s = .next s)

/-! ### Divert decisions and reports -/

/-- A request that finds the tray's context OPEN, QUEUED or GRADING is answered with a recirculation and counts a lap; an OPEN
context seals first (R22, R85, R86). The grading started by the seal in its own step is log entry 1. -/
def Obligations.RequestRecirculatesUngradedContext : Prop :=
  ∀ (s : State) (t : Tray) (i : ContextIndex), s.sorterLink = .up → (∀ o ∈ s.orders, o.tray ≠ t) → s.lookup t = some i →
    ((s.context i).state = .opened →
      exec (.decisionReq t) s = .next ((s.withSealed i (s.context i)).recirculated t i)) ∧
    ((s.context i).state = .queued ∨ (s.context i).state = .grading →
      exec (.decisionReq t) s = .next (s.recirculated t i))

/-- A request for a GRADED context below the lap limit is given an order to the first acceptable candidate of its copied target,
or recirculates; at or above the limit it takes the exception route (R80, R81, R82, R87, R88). -/
def Obligations.RequestOrdersGradedContext : Prop :=
  ∀ (s : State) (t : Tray) (i : ContextIndex) (ct : ChosenTarget) (g : Nat), s.sorterLink = .up →
    (∀ o ∈ s.orders, o.tray ≠ t) → s.lookup t = some i → (s.context i).state = .graded → (s.context i).target = some ct →
    ((s.context i).measured = some g ∨
      (s.context i).measured = none ∧ (s.context i).catalogue ≠ 0 ∧ g = (s.context i).catalogue ∨
      (s.context i).measured = none ∧ (s.context i).catalogue = 0 ∧ g = s.settings.defaultWeight) →
    let x := s.settings.exceptionChute
    let routed := s.modContext i (fun c => { c with exceptionRoute := true })
    ((s.context i).laps < s.settings.lapLimit →
      (∀ pre k post d, ct.target.candidates (s.context i).size = pre ++ k :: post → (∀ j ∈ pre, s.refuses j g) →
        s.accepts k g d → exec (.decisionReq t) s = .next (s.ordered t k d g (some i))) ∧
      ((∀ j ∈ ct.target.candidates (s.context i).size, s.refuses j g) →
        exec (.decisionReq t) s = .next (s.recirculated t i))) ∧
    (s.settings.lapLimit ≤ (s.context i).laps →
      (∀ d, s.accepts x g d → exec (.decisionReq t) s = .next (routed.ordered t x d g (some i))) ∧
      (s.refuses x g →
        exec (.decisionReq t) s = .next ((routed.recirculated t i).offerEvent (.exceptionUnavailable t x))))

/-- A request for a tray with no context tries the exception chute with the default weight, with no lap counted; and an order
still outstanding for a request's tray is first settled as an implied miss (R83, R84). The premises on the list are R77, which
TotesSound states. -/
def Obligations.RequestSettlesAndAnswersUntrackedTray : Prop :=
  (∀ (s : State) (t : Tray), s.sorterLink = .up → (∀ o ∈ s.orders, o.tray ≠ t) → s.lookup t = none →
    let x := s.settings.exceptionChute
    (∀ d, s.accepts x s.settings.defaultWeight d →
      exec (.decisionReq t) s = .next (s.ordered t x d s.settings.defaultWeight none)) ∧
    (s.refuses x s.settings.defaultWeight →
      exec (.decisionReq t) s = .next ((s.sendSorter (.recircOrder t)).offerEvent (.exceptionUnavailable t x)))) ∧
  (∀ (s : State) (t : Tray) (o : DivertOrder), s.sorterLink = .up → (s.orders.map DivertOrder.tray).Nodup →
    o ∈ s.orders → o.tray = t →
    (∀ i, o.context = some i → (s.context i).state = .ordered) →
    let settled := (s.settleRelease o).offerEvent (.impliedMiss t o.chute)
    (o.context = none → exec (.decisionReq t) s = exec (.decisionReq t) settled) ∧
    (∀ i, o.context = some i → exec (.decisionReq t) s =
      exec (.decisionReq t) (settled.modContext i (fun c => { c with state := .graded }))))

/-- A divert reported at the chute ordered commits the reservation and closes the order's context DIVERTED with the read tote id
of the order's descriptor, or, for an order with no context, offers UNTRACKED_DIVERT (R90). The first premise is R77. -/
def Obligations.DivertAsOrderedIsCommitted : Prop :=
  ∀ (s : State) (o : DivertOrder), s.sorterLink = .up → (s.orders.map DivertOrder.tray).Nodup → o ∈ s.orders →
    (∀ i, o.context = some i → (s.context i).state = .ordered →
      exec (.divertDone o.tray o.chute) s = .next ((s.settleCommit o).closeContext i .diverted
        (some { chute := o.chute, toteId := (s.descriptor o.descriptor).readId }))) ∧
    (o.context = none → exec (.divertDone o.tray o.chute) s =
      .next ((s.settleCommit o).offerEvent (.untrackedDivert o.tray o.chute)))

/-- A divert reported at another chute, or with no order, counts a stray there; the tray's context closes MISDELIVERED with the
tote id of the tote in place, 0 with none, but one in OPEN or GRADING stays and the report is unmatched (R91, R92, R93, R123). The
premise on the list is R77. -/
def Obligations.DivertElsewhereIsAStray : Prop :=
  (∀ (s : State) (k : Chute) (d : DescriptorIndex), (s.chute k).active = some d → s.stray k =
    (s.modDescriptor d (fun D => { D with strays := if D.strays < 255 then D.strays + 1 else 255 }),
      (s.descriptor d).readId)) ∧
  (∀ (s : State) (k : Chute), (s.chute k).active = none → s.stray k = (s, 0)) ∧
  (∀ (s : State) (o : DivertOrder) (k : Chute), s.sorterLink = .up → (s.orders.map DivertOrder.tray).Nodup →
    o ∈ s.orders → k ≠ o.chute →
    let counted := (s.settleRelease o).stray k
    (o.context = none → exec (.divertDone o.tray k) s =
      .next (counted.1.offerEvent (.strayDivert o.tray k (some o.chute)))) ∧
    (∀ i, o.context = some i → (s.context i).state = .ordered → exec (.divertDone o.tray k) s =
      .next ((counted.1.closeContext i .misdelivered (some { chute := k, toteId := counted.2 })).offerEvent
        (.strayDivert o.tray k (some o.chute))))) ∧
  (∀ (s : State) (t : Tray) (k : Chute), s.sorterLink = .up → (∀ o ∈ s.orders, o.tray ≠ t) →
    let counted := (s.stray k).1.offerEvent (.strayDivert t k none)
    (s.lookup t = none → exec (.divertDone t k) s = .next counted) ∧
    (∀ i, s.lookup t = some i → (s.context i).state = .queued ∨ (s.context i).state = .graded →
      exec (.divertDone t k) s =
        .next (counted.closeContext i .misdelivered (some { chute := k, toteId := (s.stray k).2 }))) ∧
    (∀ i, s.lookup t = some i → (s.context i).state = .opened ∨ (s.context i).state = .grading →
      exec (.divertDone t k) s = .next (counted.offerEvent (.unmatchedReport t k .done))))

/-- A missed divert and an expired order release the reservation and return the context to GRADED with a lap counted; only the
expiry offers an event (R94, R96). An order expires with no time left, and with time left the expiry changes nothing (log entries
7 and 15). The premise on the list is R77. -/
def Obligations.MissedOrExpiredOrderIsReleased : Prop :=
  (∀ (s : State) (o : DivertOrder), (s.orders.map DivertOrder.tray).Nodup → o ∈ s.orders →
    let settles := fun u : State =>
      (s.sorterLink = .up → exec (.divertMissed o.tray o.chute) s = .next u) ∧
      (o.remaining = 0 → exec (.orderExpiry o.tray o.chute) s = .next (u.offerEvent (.orderExpired o.tray o.chute)))
    (o.context = none → settles (s.settleRelease o)) ∧
    (∀ i, o.context = some i → (s.context i).state = .ordered →
      settles ((s.settleRelease o).modContext i (fun c => { c with
        state := .graded, laps := if c.laps < 15 then c.laps + 1 else 15 })))) ∧
  (∀ (s : State) (t : Tray) (k : Chute), (∀ o ∈ s.orders, o.tray = t → o.chute = k → o.remaining ≠ 0) →
    exec (.orderExpiry t k) s = .next s)

/-- A DIVERT_MISSED with no order at its tray and chute offers UNMATCHED_REPORT, and nothing else changes (R95). -/
def Obligations.UnmatchedMissOnlyOffersItsEvent : Prop :=
  ∀ (s : State) (t : Tray) (k : Chute), s.sorterLink = .up → (∀ o ∈ s.orders, o.tray = t → o.chute ≠ k) →
    exec (.divertMissed t k) s = .next (s.offerEvent (.unmatchedReport t k .missed))

/-! ### Management commands of the engine -/

/-- CONFIGURE clamps and writes all eight settings together and returns them as written; an exception chute above 31 refuses the
whole (R173). -/
def Obligations.ConfigureClampsAndWritesAllSettings : Prop :=
  ∀ (s : State) (tag lap chute time wHi wLo hold zone extent lock : Byte), s.command = none →
    let params := [lap, chute, time, wHi, wLo, hold, zone, extent, lock]
    (32 ≤ chute.toNat → exec (.configure tag params) s = .next (s.finish tag 0x01 params .badParam [])) ∧
    ∀ (k : Chute) (l : Bool) (lapLimit orderTimeout defaultWeight holdThreshold basicZone basicExtent : Nat),
      chute.toNat = k.val → lock.toNat = l.toNat →
      lapLimit = (if lap.toNat = 0 then 1 else if 7 < lap.toNat then 7 else lap.toNat) →
      orderTimeout = (if time.toNat = 0 then 1 else if 15 < time.toNat then 15 else time.toNat) →
      defaultWeight = (if (wHi ++ wLo).toNat = 0 then 1 else if 20000 < (wHi ++ wLo).toNat then 20000
        else (wHi ++ wLo).toNat) →
      holdThreshold = (if hold.toNat < 4 then 4 else if 15 < hold.toNat then 15 else hold.toNat) →
      basicZone = (if 2 < zone.toNat then 2 else zone.toNat) →
      basicExtent = (if extent.toNat = 0 then 1 else if 4 < extent.toNat then 4 else extent.toNat) →
      exec (.configure tag params) s = .next ({ s with settings :=
        { lapLimit := lapLimit, exceptionChute := k, orderTimeout := orderTimeout, defaultWeight := defaultWeight,
          holdThreshold := holdThreshold, basicZone := basicZone, basicExtent := basicExtent, lock := l } }.finish tag 0x01
        params .ok [byteOf lapLimit, chute, byteOf orderTimeout, byteOf (defaultWeight / 256), byteOf defaultWeight,
          byteOf holdThreshold, byteOf basicZone, byteOf basicExtent, lock])

/-- ABANDON_TRAY acts by the state of the tray's context: NOT_FOUND with none, a close at once in OPEN, QUEUED and GRADED, a mark
and a wait in GRADING, and in ORDERED a cancel of the order before the close (R24, R25, R99, R176). -/
def Obligations.AbandonTrayActsByContextState : Prop :=
  ∀ (s : State) (tag hi lo : Byte) (t : Tray), s.command = none → (hi ++ lo).toNat = t.val →
    (s.lookup t = none → exec (.abandonTray tag [hi, lo]) s = .next (s.finish tag 0x0C [hi, lo] .notFound [])) ∧
    (∀ i, s.lookup t = some i →
      (s.context i).state = .opened ∨ (s.context i).state = .queued ∨ (s.context i).state = .graded →
      exec (.abandonTray tag [hi, lo]) s =
        .next ((s.closeContext i .abandoned none).finish tag 0x0C [hi, lo] .ok [hi, lo])) ∧
    (∀ i, s.lookup t = some i → (s.context i).state = .grading → exec (.abandonTray tag [hi, lo]) s =
      .next { s.modContext i (fun c => { c with abandonMark := true }) with
        command := some { tag := tag, code := 0x0C, params := [hi, lo], phase := .execution } }) ∧
    (∀ i o, s.lookup t = some i → (s.context i).state = .ordered → o ∈ s.orders → o.context = some i →
      (∀ o' ∈ s.orders, o'.context = some i → o' = o) → exec (.abandonTray tag [hi, lo]) s =
        .next ((((s.settleRelease o).modContext i (fun c => { c with state := .graded })).closeContext i .abandoned
          none).finish tag 0x0C [hi, lo] .ok [hi, lo]))

/-- The reads change nothing but their result. READ_CONTEXT answers NOT_FOUND for a tray without a context, else the record in 48
bytes, or up to six list entries of six bytes; READ_CHUTE the chute's record, its ACTIVE descriptor's fields or zeros, and at
most 32 indices of the chain; READ_STATUS its 51 bytes; READ_TABLE echoes its three bytes and carries the fields of the
addressed entry. Fields stand in the order of their rules, enumerations by their codes (R62, R74, R147, R176, R178, R179, R180,
R181). -/
def Obligations.ReadsReturnSnapshots : Prop :=
  let high := fun n : Nat => byteOf (n / 256)
  let flag := fun b : Bool => if b = true then (1 : Byte) else 0
  WireCodes ∧
  (∀ (s : State) (tag : Byte), s.command = none →
      (∀ (hi lo part : Byte) (t : Tray), (hi ++ lo).toNat = t.val → part.toNat < 3 → s.lookup t = none →
        exec (.readContext tag [hi, lo, part]) s = .next (s.finish tag 0x0D [hi, lo, part] .notFound [])) ∧
      (∀ (hi lo : Byte) (t : Tray) (i : ContextIndex), (hi ++ lo).toNat = t.val → s.lookup t = some i →
        let c := s.context i
        let ref := c.orderRef.toNat
        let measured := c.measured.getD 65535
        let target : List Byte := match c.target with
          | none => [255, 255, 255, 255, 255]
          | some ct => [byteOf ct.target.cls.code, byteOf ct.target.first.val, byteOf ct.target.width,
              byteOf ct.target.spread.code, byteOf (windowCode ct.window)]
        let record : List Byte :=
          [byteOf i.val, byteOf c.state.code, byteOf c.category.val, byteOf c.tier.val, byteOf c.season.val,
            byteOf c.size.val, byteOf c.reason.val, high c.days.val, byteOf c.days.val, high c.catalogue,
            byteOf c.catalogue, byteOf (ref / 2 ^ 24), byteOf (ref / 2 ^ 16), byteOf (ref / 2 ^ 8), byteOf ref,
            high measured, byteOf measured, if c.tags = none then 0 else if c.tags = some true then 1 else 2,
            flag c.mismatch, c.expected, c.reported, c.lost, flag c.late, flag c.overflow, flag c.manualDropped,
            flag c.abandonMark, byteOf c.laps, byteOf (gradeCode c.grade), high c.score.defect, byteOf c.score.defect,
            high c.score.weight, byteOf c.score.weight, high c.score.age, byteOf c.score.age, byteOf c.score.tag,
            BitVec.ofInt 8 c.score.reason, high c.score.total, byteOf c.score.total,
            byteOf (c.causes.noProfile.toNat + 2 * c.causes.manualDefect.toNat + 4 * c.causes.labelMismatch.toNat +
              8 * c.causes.missingMandatory.toNat + 16 * c.causes.observationLost.toNat)] ++ target ++
          [flag c.ageUnknown, flag c.weightUnchecked, flag c.exceptionRoute, byteOf c.observations.length]
        let entries := fun os : List Observation => [byteOf i.val, byteOf c.state.code, byteOf c.observations.length] ++
          os.flatMap (fun o =>
            [byteOf o.code.val, byteOf o.zone, byteOf o.extent, high o.points, byteOf o.points, flag o.manual])
        record.length = 48 ∧
        exec (.readContext tag [hi, lo, 0]) s = .next (s.finish tag 0x0D [hi, lo, 0] .ok record) ∧
        exec (.readContext tag [hi, lo, 1]) s =
          .next (s.finish tag 0x0D [hi, lo, 1] .ok (entries (c.observations.take 6))) ∧
        exec (.readContext tag [hi, lo, 2]) s =
          .next (s.finish tag 0x0D [hi, lo, 2] .ok (entries ((c.observations.drop 6).take 6)))) ∧
      (∀ (chute : Byte) (k : Chute), chute.toNat = k.val →
        let c := s.chute k
        let index := fun d : Option DescriptorIndex => d.elim (255 : Byte) (fun d => byteOf d.val)
        let tote : List Byte := match c.active with
          | none => List.replicate 15 0
          | some d =>
            let D := s.descriptor d
            [high D.toteId.toNat, byteOf D.toteId.toNat, high D.readId.toNat, byteOf D.readId.toNat, byteOf D.capacity,
              high D.weightLimit, byteOf D.weightLimit, flag D.continueFlag, byteOf D.committedItems,
              high D.committedGrams, byteOf D.committedGrams, byteOf D.reservedItems, high D.reservedGrams,
              byteOf D.reservedGrams, byteOf D.strays]
        exec (.readChute tag [chute]) s = .next (s.finish tag 0x0E [chute] .ok
          ([byteOf k.val, byteOf c.state.code, flag c.disabled, flag c.jammed, index c.pending, index c.active,
              c.pendingCause.elim 255 (fun cause => byteOf cause.code),
              byteOf (s.orders.countP (fun o => o.chute = k))] ++ tote ++
            [byteOf c.chain.length] ++ (c.chain.take 32).map (fun d => byteOf d.val)))) ∧
      (let number := fun st : ContextState => (List.finRange 256).countP (fun i => (s.context i).state = st)
        let free := (List.finRange 128).countP (fun d => (s.descriptor d).state = .free)
        let g := s.settings
        let status : List Byte :=
          [ContextState.free, .opened, .queued, .grading, .graded, .ordered, .reporting].flatMap
              (fun st => [high (number st), byteOf (number st)]) ++
            [high s.gradingQueue.length, byteOf s.gradingQueue.length] ++
            (List.finRange 8).map (fun p => byteOf (s.port p).state.code) ++
            [byteOf s.lineLink.code, byteOf s.sorterLink.code, byteOf s.outbound.length, flag s.attention] ++
            [EventKind.portEvent, .frameRejected, .inductRefused, .obsDiscarded, .queueOverrun, .orderExpired,
              .impliedMiss, .unmatchedReport, .strayDivert, .untrackedDivert, .exceptionUnavailable, .chuteEvent].map
              (fun k => byteOf (s.route k).code) ++
            [byteOf free, byteOf s.orders.length, byteOf g.lapLimit, byteOf g.exceptionChute.val, byteOf g.orderTimeout,
              high g.defaultWeight, byteOf g.defaultWeight, byteOf g.holdThreshold, byteOf g.basicZone,
              byteOf g.basicExtent, flag g.lock]
        status.length = 51 ∧ exec (.readStatus tag []) s = .next (s.finish tag 0x10 [] .ok status))) ∧
  (∀ (s : State) (tag a b : Byte), s.command = none →
      let answers := fun (table : Byte) (entry : List Byte) => exec (.readTable tag [table, a, b]) s =
        .next (s.finish tag 0x0F [table, a, b] .ok ([table, a, b] ++ entry))
      let refuses := fun table : Byte => exec (.readTable tag [table, a, b]) s =
        .next (s.finish tag 0x0F [table, a, b] .badParam [])
      let target := fun x : Target => [byteOf x.cls.code, byteOf x.first.val, byteOf x.width, byteOf x.spread.code]
      (∀ (set : Fin 16) (code : Fin 128), a.toNat = set.val → b.toNat = code.val →
        answers 0 [byteOf s.weights[set][code].weight, flag s.weights[set][code].manual]) ∧
      (∀ c : Fin 64, a.toNat = c.val →
        let P := s.profiles[c]
        answers 1 [flag P.valid, byteOf P.defectSet.val, P.mandatory.setWidth 8, high P.tA, byteOf P.tA, high P.tB,
          byteOf P.tB, high P.tC, byteOf P.tC, high P.tD, byteOf P.tD, byteOf P.tolerance, high P.allowance,
          byteOf P.allowance, byteOf P.rate, high P.cap, byteOf P.cap, flag P.tagsRequired, byteOf P.tagPoints]) ∧
      (∀ r : Fin 16, a.toNat = r.val → answers 2 [s.reasons[r]]) ∧
      (∀ (g : Grade) (i : Fin 8), a.toNat = gradeCode (some g) → b.toNat = i.val →
        let w := s.windows[g.index][i]
        answers 3 ([flag w.enabled, w.category.elim 255 (fun c => byteOf c.val), w.tiers, byteOf w.lo.val,
          byteOf w.hi.val, high w.reasons.toNat, byteOf w.reasons.toNat] ++ target w.target)) ∧
      (∀ g : Grade, a.toNat = gradeCode (some g) → answers 4 (target s.defaults[g.index])) ∧
      (16 ≤ a.toNat ∨ 128 ≤ b.toNat → refuses 0) ∧ (64 ≤ a.toNat → refuses 1) ∧ (16 ≤ a.toNat → refuses 2) ∧
      (a.toNat = 0 ∨ 6 < a.toNat ∨ 8 ≤ b.toNat → refuses 3) ∧ (a.toNat = 0 ∨ 6 < a.toNat → refuses 4) ∧
      (∀ table : Byte, 4 < table.toNat → refuses table))

/-- EVENT_ROUTE writes one route and refuses codes that name nothing; ACK_ATTENTION clears the attention state (R160, R161). -/
def Obligations.RoutesAndAttentionAreWritten : Prop :=
  ∀ (s : State) (tag : Byte), s.command = none →
    (∀ (kind route : Byte) (k : EventKind) (r : Route), kind.toNat = k.index.val + 1 → route.toNat = r.code →
      ∃ routes : Vector Route 12, (∀ j : EventKind, routes[j.index] = if j = k then r else s.route j) ∧
        exec (.eventRoute tag [kind, route]) s =
          .next ({ s with routes := routes }.finish tag 0x11 [kind, route] .ok [kind, route])) ∧
    (∀ kind route : Byte, kind = 0 ∨ 12 < kind.toNat ∨ 2 < route.toNat →
      exec (.eventRoute tag [kind, route]) s = .next (s.finish tag 0x11 [kind, route] .badParam [])) ∧
    exec (.ackAttention tag []) s = .next ({ s with attention := false }.finish tag 0x12 [] .ok [])

/-- SOFT_RESET returns every block's working state to its reset value in one step and its result is the first entry of the
empty queue. Tables, windows, defaults, links, the sorter's waiting answers and each port's classes and capability are kept;
settings and routes are kept or returned by the lock flag; the frame being sent on the line link or at a station port is
completed on the wire, and what waits behind it is discarded (R26, R47, R53, R75, R79, R124, R142, R155, R167, R175, R182,
R183). Which frame is being sent is log entry 11. -/
def Obligations.SoftResetClearsWorkingState : Prop :=
  ∀ (s : State) (tag : Byte), s.command = none → ∃ t u : State, exec (.softReset tag []) s = .next t ∧ AtPowerOn u ∧
    t = { u with
      weights := s.weights, profiles := s.profiles, reasons := s.reasons, windows := s.windows, defaults := s.defaults
      ports := t.ports, stationLinks := s.stationLinks, lineLink := s.lineLink, sorterLink := s.sorterLink
      stationTx := t.stationTx, sorterTx := s.sorterTx
      lineFinishing := if s.lineFinishing ≠ none then s.lineFinishing
        else if s.lineLink = .up then s.outbound.head? else none
      outbound := [.mgmt { tag := tag, code := 0x13, result := .ok, payload := [] }]
      routes := if s.settings.lock = true then s.routes else u.routes
      settings := if s.settings.lock = true then s.settings else u.settings
      pending := s.pending } ∧
    (∀ p : StationPort, t.stationTx[p] = if s.stationLinks[p] = .up then s.stationTx[p].take 1 else []) ∧
    ∀ p, t.port p = { state := .detached, expectedClass := (s.port p).expectedClass,
                      detectedClass := (s.port p).detectedClass, capability := (s.port p).capability, compound := false,
                      faultCause := none, timer := none, inbound := [], hold := false }

/-! ### Frames and links -/

/-- A received frame is rejected with the cause of the first test it fails, in the order of the five tests, and the event is
all that changes; a DETACHED station port checks no frame, and none arrives at the sorter port while its link is DOWN (R131,
R145, R150). The codes that each port receives and the lengths that each kind allows are those of R146. That line and station
frames are judged whatever their link state is log entry 6. -/
def Obligations.RejectedFrameOffersItsCause : Prop :=
  InboundKinds ∧
  ∀ (s : State) (port : Port) (bytes : List Byte),
    let n := bytes.length
    let kind := bytes.getD 0 0
    let len := (bytes.getD 1 0).toNat
    let sound := bytes.getD (n - 2) 0 ++ bytes.getD (n - 1) 0 = crc16 (bytes.take (n - 2))
    let rejected := fun (cause : RejectCause) (code : Byte) =>
      exec (.frameRejected port bytes) s = .next (s.offerEvent (.frameRejected port cause code))
    ((∃ p, port = .station p ∧ (s.port p).state = .detached) ∨ port = .sorter ∧ s.sorterLink = .down →
      exec (.frameRejected port bytes) s = .next s) ∧
    ((∀ p, port = .station p → (s.port p).state ≠ .detached) → (port = .sorter → s.sorterLink = .up) →
      (n < 6 ∨ 66 < n → rejected .length 0) ∧
      (6 ≤ n → n ≤ 66 → (¬ sound → rejected .check kind) ∧
        (sound → (60 < len ∨ len + 6 ≠ n → rejected .length kind) ∧
          (len ≤ 60 → len + 6 = n →
            ((∀ k ∈ port.receives, k.code ≠ kind) → rejected .kind kind) ∧
            (∀ k ∈ port.receives, k.code = kind → k.allows len = false → rejected .length kind)))))

/-- The head entry sent leaves the queue, and exactly one waiting record enters in its place: the management result, else the
lowest chute's first tote record, else the item result of the oldest stamp (R153, R163, R164). The entry cleared from the wire
is log entry 11, the values of the slot made FREE that the manual gives none log entry 5. Each entry is sent as a frame with its
check, whose payload holds the record's fields in the places that the layouts give; that the results sent are in their ranges
StepKeepsListsAndQueuesSound says (R143, R144, R146, R147, R148, R149, R157, R158, R162). -/
def Obligations.EntrySentAdmitsOneWaitingRecord : Prop :=
  (∀ (s : State) (f : OutFrame) (rest : List OutFrame), s.lineLink = .up → s.outbound = f :: rest →
    let with_ := fun fs : List OutFrame => { s with outbound := rest ++ fs, lineFinishing := none }
    (∀ tag code params r, s.command = some { tag := tag, code := code, params := params, phase := .result r } →
      exec .entrySent s = .next { with_ [.mgmt r] with command := none }) ∧
    (s.waitingResult = none →
      (∀ pre w post, s.waitingTotes = pre ++ w :: post → (∀ x ∈ pre, w.record.chute < x.record.chute) →
        (∀ x ∈ post, w.record.chute ≤ x.record.chute) →
        exec .entrySent s = .next (State.modDescriptor { with_ [.tote w.record] with waitingTotes := pre ++ post }
          w.descriptor (fun _ => {}))) ∧
      (∀ i, s.waitingTotes = [] → (s.context i).state = .reporting →
        (∀ j, j ≠ i → (s.context j).state = .reporting →
          (s.stampCounter - (s.context j).stamp.getD 0).toNat < (s.stampCounter - (s.context i).stamp.getD 0).toNat) →
        exec .entrySent s = .next ((with_ [.item (s.context i).itemResult]).modContext i (fun _ => {}))) ∧
      (s.waitingTotes = [] → (∀ i, (s.context i).state ≠ .reporting) → exec .entrySent s = .next (with_ [])))) ∧
  WireCodes ∧
  (∀ r : ItemResult, ItemRanges r → ∃ payload, ItemPayload r payload ∧ IsFrame (OutFrame.item r).bytes 0x18 r.tray payload) ∧
  (∀ r : ToteRecord, IsFrame (OutFrame.tote r).bytes 0x19 1023
    [byteOf r.chute.val, byteOf (r.toteId.toNat / 256), byteOf r.toteId.toNat, byteOf r.items, byteOf (r.grams / 256),
      byteOf r.grams, byteOf r.residue, byteOf r.strays, byteOf r.cause.code]) ∧
  (∀ r : MgmtResult, IsFrame (OutFrame.mgmt r).bytes 0x1A 1023 ([r.tag, r.code, byteOf r.result.code] ++ r.payload)) ∧
  ∀ (dropped : Nat) (p : StationPort) (k j : Chute) (t : Tray),
    let sends := fun (a : Advisory) (tray : Tray) (code subject d0 d1 d2 d3 : Byte) =>
      IsFrame (OutFrame.event a dropped).bytes 0x1B tray [code, subject, d0, d1, d2, d3, byteOf dropped]
    let port := byteOf p.val
    let chute := byteOf k.val
    (sends (.portEvent p .attached) 1023 1 port 1 0 0 0 ∧
      (∀ (c : StationClass) (cap : Capability) (d : Bool), sends (.portEvent p (.probed c cap d)) 1023 1 port 2
        (byteOf c.code) (byteOf cap.code) (if d = true then 1 else 0)) ∧
      sends (.portEvent p .ready) 1023 1 port 3 0 0 0 ∧ sends (.portEvent p .paused) 1023 1 port 4 0 0 0 ∧
      sends (.portEvent p .pauseForced) 1023 1 port 5 0 0 0 ∧ sends (.portEvent p .resumed) 1023 1 port 6 0 0 0 ∧
      sends (.portEvent p .lost) 1023 1 port 7 0 0 0 ∧
      (∀ announced : Byte, sends (.portEvent p (.faultMismatch announced)) 1023 1 port 8 announced 1 0) ∧
      sends (.portEvent p .faultNoResume) 1023 1 port 8 0 2 0 ∧
      sends (.portEvent p .compoundCancelled) 1023 1 port 9 0 0 0) ∧
    (∀ (kind : Byte) (at_ : Port) (subject : Byte),
      at_ = .station p ∧ subject = port ∨ at_ = .line ∧ subject = 8 ∨ at_ = .sorter ∧ subject = 9 →
      sends (.frameRejected at_ .check kind) 1023 2 subject 1 kind 0 0 ∧
      sends (.frameRejected at_ .length kind) 1023 2 subject 2 kind 0 0 ∧
      sends (.frameRejected at_ .kind kind) 1023 2 subject 3 kind 0 0) ∧
    (sends (.inductRefused t .noTray) t 3 255 1 0 0 0 ∧ sends (.inductRefused t .trayBusy) t 3 255 2 0 0 0 ∧
      sends (.inductRefused t .tableFull) t 3 255 3 0 0 0) ∧
    (∀ (kind : RecordKind) (code : Byte),
      kind = .defect ∧ code = 0x21 ∨ kind = .tag ∧ code = 0x22 ∨ kind = .weight ∧ code = 0x23 ∨
        kind = .itemDone ∧ code = 0x24 →
      sends (.obsDiscarded p t .noContext kind) t 4 port 1 code 0 0 ∧
      sends (.obsDiscarded p t .late kind) t 4 port 2 code 0 0 ∧
      sends (.obsDiscarded p t .unexpectedPort kind) t 4 port 3 code 0 0 ∧
      sends (.obsDiscarded p t .kindNotAllowed kind) t 4 port 4 code 0 0 ∧
      sends (.queueOverrun p t kind) t 5 port code 0 0 0) ∧
    (sends (.orderExpired t k) t 6 chute 0 0 0 0 ∧ sends (.impliedMiss t k) t 7 chute 0 0 0 0 ∧
      sends (.unmatchedReport t k .done) t 8 chute 1 0 0 0 ∧ sends (.unmatchedReport t k .missed) t 8 chute 2 0 0 0 ∧
      sends (.strayDivert t k (some j)) t 9 chute (byteOf j.val) 0 0 0 ∧ sends (.strayDivert t k none) t 9 chute 255 0 0 0 ∧
      sends (.untrackedDivert t k) t 10 chute 0 0 0 0 ∧ sends (.exceptionUnavailable t k) t 11 chute 0 0 0 0) ∧
    (sends (.chuteEvent k .opened) 1023 12 chute 1 0 0 0 ∧
      (∀ x : BitVec 16, sends (.chuteEvent k (.toteMismatch x)) 1023 12 chute 2 (byteOf (x.toNat / 256)) (byteOf x.toNat) 0) ∧
      sends (.chuteEvent k .swapping) 1023 12 chute 3 0 0 0 ∧ sends (.chuteEvent k .closing) 1023 12 chute 4 0 0 0 ∧
      sends (.chuteEvent k .exhausted) 1023 12 chute 5 0 0 0 ∧ sends (.chuteEvent k .unconfigured) 1023 12 chute 6 0 0 0 ∧
      sends (.chuteEvent k .fullIgnored) 1023 12 chute 7 0 0 0 ∧ sends (.chuteEvent k .jammed) 1023 12 chute 8 0 0 0 ∧
      sends (.chuteEvent k .jamCleared) 1023 12 chute 9 0 0 0)

/-- A frame produced at a station port or the sorter port waits behind those before it, or is lost at a full port or a link
that is DOWN; frames leave in order; a link going DOWN discards the waiting ones and stops the line link's sending, and a link
coming UP changes its state alone; while the sorter link is DOWN no frame of the sorter is taken (R101, R150, R152, R153). The
frames of the station ports and the sorter port are those of R143, R146 and R147. The entry cleared from the wire is log entry
11, a link that changes to the state it has log entry 6. -/
def Obligations.PortsTransmitWhileLinksAreUp : Prop :=
  ∀ s : State,
    (∀ (p : StationPort) (f : StationFrame),
      (s.link (.station p) = .up → s.stationTx[p].length < 8 →
        s.sendStation p f = { s with stationTx := s.stationTx.set p (s.stationTx[p] ++ [f]) }) ∧
      (s.link (.station p) = .down ∨ 8 ≤ s.stationTx[p].length → s.sendStation p f = s)) ∧
    (∀ f : SorterFrame,
      (s.link .sorter = .up → s.sorterTx.length < 64 → s.sendSorter f = { s with sorterTx := s.sorterTx ++ [f] }) ∧
      (s.link .sorter = .down ∨ 64 ≤ s.sorterTx.length → s.sendSorter f = s)) ∧
    (∀ (p : StationPort) (f : StationFrame) (rest : List StationFrame), s.stationTx[p] = f :: rest →
      exec (.portFrameSent (.station p)) s = .next { s with stationTx := s.stationTx.set p rest }) ∧
    (∀ (f : SorterFrame) (rest : List SorterFrame), s.sorterTx = f :: rest →
      exec (.portFrameSent .sorter) s = .next { s with sorterTx := rest }) ∧
    (∀ p : StationPort, exec (.linkUp (.station p)) s = .next { s with stationLinks := s.stationLinks.set p .up }) ∧
    exec (.linkUp .line) s = .next { s with lineLink := .up } ∧
    exec (.linkUp .sorter) s = .next { s with sorterLink := .up } ∧
    exec (.linkDown .line) s = .next { s with lineLink := .down, lineFinishing := none } ∧
    exec (.linkDown .sorter) s = .next { s with sorterLink := .down, sorterTx := [] } ∧
    (s.sorterLink = .down → ∀ (t : Tray) (k : Chute) (x : BitVec 16),
      ∀ c ∈ [Instr.decisionReq t, .divertDone t k, .divertMissed t k, .toteFull k, .toteInPlace k x, .chuteJam k,
        .chuteClear k], exec c s = .next s) ∧
    (∀ (t : Tray) (k : Chute),
      IsFrame StationFrame.probe.bytes 0x28 1023 [] ∧ IsFrame StationFrame.pause.bytes 0x29 1023 [] ∧
      IsFrame StationFrame.resume.bytes 0x2A 1023 [] ∧ IsFrame StationFrame.hold.bytes 0x2B 1023 [] ∧
      IsFrame StationFrame.release.bytes 0x2C 1023 [] ∧
      IsFrame (SorterFrame.divertOrder t k).bytes 0x38 t [byteOf k.val] ∧
      IsFrame (SorterFrame.recircOrder t).bytes 0x39 t [])

/-- A station port whose link goes DOWN falls back to LISTENING with LOST, a pending compound cancelled, and a READY or
PAUSING port is withdrawn; a DETACHED, LISTENING or FAULT port stays as it is (R137, R139, R150, R152). That the effect does
not ask for an earlier UP is log entry 6. -/
def Obligations.LostStationFallsBackToListening : Prop :=
  ∀ (s : State) (p : StationPort),
    let P := s.port p
    let s1 : State := { s with stationLinks := s.stationLinks.set p .down, stationTx := s.stationTx.set p [] }
    let lost := (s1.modPort p (fun P => { P with
      state := .listening, timer := none, hold := false, compound := false })).offerEvent (.portEvent p .lost)
    let cancelled := if P.compound = true then lost.offerEvent (.portEvent p .compoundCancelled) else lost
    (P.state = .detached ∨ P.state = .listening ∨ P.state = .fault → exec (.linkDown (.station p)) s = .next s1) ∧
    (P.state = .ready ∨ P.state = .pausing →
      exec (.linkDown (.station p)) s = .next (cancelled.withdraw p)) ∧
    (P.state = .attached ∨ P.state = .probing ∨ P.state = .probed ∨ P.state = .paused ∨ P.state = .resuming →
      exec (.linkDown (.station p)) s = .next cancelled)

/-- Every well-formed command that a frame brings is read back from its own frame, with every operand, and every intact inbound
frame is read by the layout of its kind, each field from its own bits, whatever the bits that no field occupies (R143, R144, R146,
R147, R148). Which row carries a malformed PORT_GO or CHUTE_CONTROL is log entry 9. -/
def Obligations.FrameOfCommandDecodesToIt : Prop :=
  InboundLayouts ∧
  ∀ (c : Instr) (port : Port) (bytes : List Byte), WellFormed c = true → encodeFrame c = some (port, bytes) →
    decodeFrame port bytes = c

/-! ### Invariants that every step keeps -/

/-- A step keeps the outbound queue within 64 entries, lets records wait only while it holds 64, and keeps the dropped count at
most 255 (R162, R163, R164, R165). -/
def Obligations.StepKeepsOutboundSound : Prop :=
  ∀ s t : State, OutboundSound s → step s = .next t → OutboundSound t

/-- A step keeps the tray map, the grading queue and the grading in flight in agreement with the contexts (R1, R2, R27). -/
def Obligations.StepKeepsContextsSound : Prop :=
  ∀ s t : State, ContextsSound s → step s = .next t → ContextsSound t

/-- A step keeps the laws of totes and orders, together with those of the contexts that orders name: capacity and weight limit are
never passed, every reservation belongs to an outstanding order, and the descriptors of a chute's sequence name one another in
its order, with counts 0 before their tote is placed (R77, R78, R103, R104, R105, R106, R108, R110, R118). -/
def Obligations.StepKeepsTotesSound : Prop :=
  ∀ s t : State, ContextsSound s → TotesSound s → step s = .next t → TotesSound t

/-- A step keeps every observation list at most 12 long with no code twice, the reported ports among the expected, the station
and sorter queues within their capacities, and the fields of every context, item result and order in their ranges (R5, R13, R14,
R16, R19, R33, R34, R38, R63, R110, R140, R152). -/
def Obligations.StepKeepsListsAndQueuesSound : Prop :=
  ∀ s t : State, (∀ i, ListSound (s.context i) ∧ ReportsSound (s.context i)) → PortQueuesSound s → RangesSound s →
    TablesSound s → step s = .next t →
    (∀ i, ListSound (t.context i) ∧ ReportsSound (t.context i)) ∧ PortQueuesSound t ∧ RangesSound t

/-- A step keeps every port's timer, fault cause, HOLD state and compound flag as its state allows (R125, R126, R138, R141). It also
keeps every OPEN context from expecting a port outside READY and PAUSING, but one whose ITEM_DONE it has had (R11, R21, R139,
R186; of the ports that have reported, log entry 21). -/
def Obligations.StepKeepsPortsSound : Prop :=
  ∀ s t : State, step s = .next t →
    ((∀ p, PortSound (s.port p)) → ∀ p, PortSound (t.port p)) ∧ (ExpectedSound s → ExpectedSound t)

/-- A step keeps every table entry, window, default target and setting in its range (R48, R50, R63, R65, R172). -/
def Obligations.StepKeepsTablesSound : Prop :=
  ∀ s t : State, TablesSound s → step s = .next t → TablesSound t

/-- The state after power-on reset meets every invariant. -/
def Obligations.PowerOnResetIsSound : Prop :=
  OutboundSound State.reset ∧ ContextsSound State.reset ∧ TotesSound State.reset ∧
  (∀ i, ListSound (State.reset.context i) ∧ ReportsSound (State.reset.context i)) ∧ PortQueuesSound State.reset ∧
  RangesSound State.reset ∧ (∀ p, PortSound (State.reset.port p)) ∧ ExpectedSound State.reset ∧
  TablesSound State.reset
end

