-- ==== Sys2Proof/Laws/Operands.lean ====
section
/-! SUPPORT. What the parameter checks of the table writes and of CHAIN_LOAD accept, in bytes: one lemma for each. -/

namespace Sys2Proof.Machine

/-! ### Single bytes -/

theorem indexOf_isSome (n : Nat) (b : Byte) : (indexOf n b).isSome = true ↔ b.toNat < n := by
  unfold indexOf
  split <;> simp_all

theorem indexOf_eq_some {n : Nat} {b : Byte} {i : Fin n} : indexOf n b = some i ↔ b.toNat = i.val := by
  unfold indexOf
  split
  · next h => simp [Fin.ext_iff]
  · next h => simp; omega

theorem indexOf_eq_none {n : Nat} {b : Byte} : indexOf n b = none ↔ n ≤ b.toNat := by
  unfold indexOf
  split <;> simp_all

theorem flagOf_eq_some {b : Byte} {f : Bool} : flagOf b = some f ↔ b.toNat = f.toNat := by
  revert b f
  decide

theorem flagOf_isSome (b : Byte) : (flagOf b).isSome = true ↔ b.toNat ≤ 1 := by
  revert b
  decide

theorem gradeOf_isSome (b : Byte) : (gradeOf b).isSome = true ↔ 1 ≤ b.toNat ∧ b.toNat ≤ 6 := by
  revert b
  decide

theorem dispositionOf_isSome (b : Byte) : (dispositionOf b).isSome = true ↔ b.toNat ≤ 5 := by
  revert b
  decide

theorem spreadOf_isSome (b : Byte) : (spreadOf b).isSome = true ↔ b.toNat ≤ 1 := by
  revert b
  decide

theorem windowCategory_isSome (b : Byte) : (windowCategory b).isSome = true ↔ b.toNat ≤ 63 ∨ b.toNat = 255 := by
  revert b
  decide

/-- Two bytes as a number, most significant first. -/
theorem be16_toNat (hi lo : Byte) : (be16 hi lo).toNat = hi.toNat * 256 + lo.toNat := by
  unfold be16
  rw [BitVec.toNat_append, ← Nat.shiftLeft_add_eq_or_of_lt lo.isLt, Nat.shiftLeft_eq]

/-- Two bytes are zero where their number is. -/
theorem be16_eq_zero (hi lo : Byte) : be16 hi lo = 0 ↔ hi.toNat * 256 + lo.toNat = 0 := by
  rw [← be16_toNat]
  exact ⟨fun h => by rw [h]; rfl, fun h => BitVec.eq_of_toNat_eq h⟩

/-- A chain of checks passes where each passes. -/
theorem isSome_bind {α β : Type} {o : Option α} {f : α → Option β} :
    (o >>= f).isSome = true ↔ ∃ a, o = some a ∧ (f a).isSome = true := by
  cases o <;> simp

theorem isSome_ite_none {α : Type} {c : Prop} [Decidable c] {a : α} : (if c then some a else none).isSome = true ↔ c := by
  split <;> simp_all

/-! ### Targets and table writes -/

/-- The target checks (R70). -/
theorem parseTarget_isSome (cls first width spread : Byte) : (parseTarget cls first width spread).isSome = true ↔
    cls.toNat ≤ 5 ∧ first.toNat ≤ 31 ∧ 1 ≤ width.toNat ∧ width.toNat ≤ 8 ∧ first.toNat + width.toNat - 1 ≤ 31 ∧
      spread.toNat ≤ 1 := by
  unfold parseTarget
  simp only [isSome_bind, indexOf_eq_some, Option.pure_def, isSome_ite_none]
  constructor
  · rintro ⟨c, hc, f, hf, s, hs, h1, h2, h3⟩
    have := (dispositionOf_isSome cls).mp (by rw [hc]; rfl)
    have := (spreadOf_isSome spread).mp (by rw [hs]; rfl)
    have := f.isLt
    omega
  · rintro ⟨h1, h2, h3, h4, h5, h6⟩
    obtain ⟨c, hc⟩ := Option.isSome_iff_exists.mp ((dispositionOf_isSome cls).mpr h1)
    obtain ⟨s, hs⟩ := Option.isSome_iff_exists.mp ((spreadOf_isSome spread).mpr h6)
    exact ⟨c, hc, ⟨first.toNat, by omega⟩, rfl, s, hs, h3, h4, h5⟩

/-- WRITE_WEIGHTS passes its checks (R56). -/
theorem parseWriteWeights_isSome (ps : List Byte) : (parseWriteWeights ps).isSome = true ↔ WeightsFit ps := by
  unfold parseWriteWeights
  split
  · next set first count m3 m2 m1 m0 ws =>
    simp only [isSome_bind, indexOf_eq_some, Option.pure_def, isSome_ite_none, WeightsFit, numAt, List.length_cons,
      List.getD_cons_zero, List.getD_cons_succ]
    constructor
    · rintro ⟨st, h1, f, h2, h3, h4, h5, h6⟩
      omega
    · rintro ⟨h1, h2, h3, h4, h5, h6, h7⟩
      exact ⟨⟨set.toNat, by omega⟩, rfl, ⟨first.toNat, by omega⟩, rfl, h5, h6, h7, by omega⟩
  · next h =>
    refine ⟨fun h' => absurd h' (by simp), fun h' => ?_⟩
    obtain ⟨hl, -⟩ := h'
    match ps, h, hl with
    | a :: b :: c :: d :: e :: f :: g :: ws, h, _ => exact absurd rfl (h a b c d e f g ws)

/-- WRITE_PROFILE passes its checks (R58). -/
theorem parseWriteProfile_isSome (ps : List Byte) : (parseWriteProfile ps).isSome = true ↔ ProfileFits ps := by
  unfold parseWriteProfile
  split
  · next cat valid =>
    have hv : valid = 0 ↔ valid.toNat = 0 := ⟨fun h => by rw [h]; rfl, fun h => BitVec.eq_of_toNat_eq h⟩
    simp only [isSome_bind, indexOf_eq_some, Option.pure_def, isSome_ite_none, ProfileFits, numAt, List.length_cons,
      List.length_nil, List.getD_cons_zero, List.getD_cons_succ, hv]
    constructor
    · rintro ⟨c, h1, h2⟩
      exact ⟨by simp, by omega, .inl h2⟩
    · rintro ⟨-, h1, h2⟩
      exact ⟨⟨cat.toNat, by omega⟩, rfl, by omega⟩
  · next cat valid set mandatory a1 a0 b1 b0 c1 c0 d1 d0 tol al1 al0 rate cap1 cap0 req points =>
    simp only [isSome_bind, indexOf_eq_some, flagOf_eq_some, Option.pure_def, ProfileFits, wordAt, numAt,
      List.length_cons, List.length_nil, List.getD_cons_zero, List.getD_cons_succ, be16_toNat, Config.scoreMax]
    constructor
    · rintro ⟨c, h1, v, h2, h3⟩
      have hc := c.isLt
      cases v
      · exact ⟨by simp, by omega, .inl h2⟩
      · simp only [Bool.not_true, Bool.false_eq_true, if_false, isSome_bind, indexOf_eq_some, flagOf_eq_some,
          isSome_ite_none] at h3
        obtain ⟨st, h4, r, h5, h6⟩ := h3
        have h7 : req.toNat ≤ 1 := by rw [h5]; exact Bool.toNat_le r
        refine ⟨by simp, by omega, .inr ⟨h2, by simp, ?_⟩⟩
        omega
    · rintro ⟨-, h1, h2⟩
      refine ⟨⟨cat.toNat, by omega⟩, rfl, ?_⟩
      rcases h2 with h2 | ⟨h2, -, h3⟩
      · exact ⟨false, h2, rfl⟩
      · refine ⟨true, h2, ?_⟩
        simp only [Bool.not_true, Bool.false_eq_true, if_false, isSome_bind, indexOf_eq_some, flagOf_eq_some,
          isSome_ite_none]
        refine ⟨⟨set.toNat, by omega⟩, rfl, req.toNat == 1, ?_, by omega⟩
        have : req.toNat = 0 ∨ req.toNat = 1 := by omega
        rcases this with h | h <;> rw [h] <;> rfl
  · next h1 h2 =>
    refine ⟨fun h' => absurd h' (by simp), fun h' => ?_⟩
    obtain ⟨hl, -⟩ := h'
    match ps, h1, h2, hl with
    | [a, b], h1, _, _ => exact absurd rfl (h1 a b)
    | [a, b, c, d, e, f, g, h, i, j, k, l, m, n, o, p, q, r, s, t], _, h2, _ =>
      exact absurd rfl (h2 a b c d e f g h i j k l m n o p q r s t)

/-- WRITE_REASONS passes its check (R60). -/
theorem parseWriteReasons_isSome (ps : List Byte) : (parseWriteReasons ps).isSome = true ↔ ps.length = 16 := by
  unfold parseWriteReasons
  split <;> simp_all

/-- WRITE_WINDOW passes its checks (R70). -/
theorem parseWriteWindow_isSome (ps : List Byte) : (parseWriteWindow ps).isSome = true ↔ WindowFits ps := by
  unfold parseWriteWindow
  split
  · next grade index enabled =>
    have hv : enabled = 0 ↔ enabled.toNat = 0 := ⟨fun h => by rw [h]; rfl, fun h => BitVec.eq_of_toNat_eq h⟩
    simp only [isSome_bind, indexOf_eq_some, Option.pure_def, isSome_ite_none, WindowFits, numAt, List.length_cons,
      List.length_nil, List.getD_cons_zero, List.getD_cons_succ, hv]
    constructor
    · rintro ⟨g, h1, i, h2, h3⟩
      have := (gradeOf_isSome grade).mp (by rw [h1]; rfl)
      exact ⟨by simp, by omega, by omega, by omega, .inl h3⟩
    · rintro ⟨-, h1, h2, h3, h4⟩
      obtain ⟨g, hg⟩ := Option.isSome_iff_exists.mp ((gradeOf_isSome grade).mpr ⟨h1, h2⟩)
      exact ⟨g, hg, ⟨index.toNat, by omega⟩, rfl, by omega⟩
  · next grade index enabled cat tiers lo hi rHi rLo cls first width spread =>
    have ht : tiers = 0 ↔ tiers.toNat = 0 := ⟨fun h => by rw [h]; rfl, fun h => BitVec.eq_of_toNat_eq h⟩
    simp only [isSome_bind, indexOf_eq_some, flagOf_eq_some, Option.pure_def, WindowFits, TargetFits, wordAt, numAt,
      List.length_cons, List.length_nil, List.getD_cons_zero, List.getD_cons_succ, ne_eq, ht, be16_eq_zero,
      Nat.reduceAdd, ← parseTarget_isSome cls first width spread]
    constructor
    · rintro ⟨g, h1, i, h2, e, h3, h4⟩
      have hg := (gradeOf_isSome grade).mp (by rw [h1]; rfl)
      have hi := i.isLt
      refine ⟨by simp, by omega, by omega, by omega, ?_⟩
      cases e
      · exact .inl h3
      · simp only [Bool.not_true, Bool.false_eq_true, if_false, isSome_bind, indexOf_eq_some, isSome_ite_none] at h4
        obtain ⟨c, h5, l, h6, h, h7, t, h8, h9, h10, h11⟩ := h4
        have hc := (windowCategory_isSome cat).mp (by rw [h5]; rfl)
        have hl := Fin.le_def.mp h10
        have hh := h.isLt
        exact .inr ⟨h3, by simp, hc, h9, by omega, by omega, h11, by rw [h8]; rfl⟩
    · rintro ⟨-, h1, h2, h3, h4⟩
      obtain ⟨g, hg⟩ := Option.isSome_iff_exists.mp ((gradeOf_isSome grade).mpr ⟨h1, h2⟩)
      refine ⟨g, hg, ⟨index.toNat, by omega⟩, rfl, ?_⟩
      rcases h4 with h4 | ⟨h4, -, h5, h6, h7, h8, h9, h10⟩
      · exact ⟨false, h4, rfl⟩
      · refine ⟨true, h4, ?_⟩
        simp only [Bool.not_true, Bool.false_eq_true, if_false, isSome_bind, indexOf_eq_some, isSome_ite_none]
        obtain ⟨c, hc⟩ := Option.isSome_iff_exists.mp ((windowCategory_isSome cat).mpr h5)
        obtain ⟨t, ht⟩ := Option.isSome_iff_exists.mp h10
        exact ⟨c, hc, ⟨lo.toNat, by omega⟩, rfl, ⟨hi.toNat, by omega⟩, rfl, t, ht, h6, h7, h9⟩
  · next h1 h2 =>
    refine ⟨fun h' => absurd h' (by simp), fun h' => ?_⟩
    obtain ⟨hl, -⟩ := h'
    match ps, h1, h2, hl with
    | [a, b, c], h1, _, _ => exact absurd rfl (h1 a b c)
    | [a, b, c, d, e, f, g, h, i, j, k, l, m], _, h2, _ => exact absurd rfl (h2 a b c d e f g h i j k l m)

/-- WRITE_DEFAULT passes its checks (R72). -/
theorem parseWriteDefault_isSome (ps : List Byte) : (parseWriteDefault ps).isSome = true ↔ DefaultFits ps := by
  unfold parseWriteDefault
  split
  · next grade cls first width spread =>
    simp only [isSome_bind, Option.pure_def, Option.isSome_some, and_true, DefaultFits, TargetFits, numAt,
      List.length_cons, List.length_nil, List.getD_cons_zero, List.getD_cons_succ, Nat.reduceAdd,
      ← parseTarget_isSome cls first width spread, ← Option.isSome_iff_exists]
    constructor
    · rintro ⟨g, h1, h2⟩
      have := (gradeOf_isSome grade).mp (by rw [h1]; rfl)
      exact ⟨by simp, this.1, this.2, h2⟩
    · rintro ⟨-, h1, h2, h3⟩
      obtain ⟨g, hg⟩ := Option.isSome_iff_exists.mp ((gradeOf_isSome grade).mpr ⟨h1, h2⟩)
      exact ⟨g, hg, h3⟩
  · next h =>
    refine ⟨fun h' => absurd h' (by simp), fun h' => ?_⟩
    obtain ⟨hl, -⟩ := h'
    match ps, h, hl with
    | [a, b, c, d, e], h, _ => exact absurd rfl (h a b c d e)

/-- A table write neither reads nor writes the command in progress. -/
theorem State.writeTable_command (s : State) (c : Option Command) (w : TableChange) :
    State.writeTable { s with command := c } w = { s.writeTable w with command := c } := by
  cases w <;> rfl

theorem parseTableChange_isSome (code : Byte) (ps : List Byte) :
    (parseTableChange code ps).isSome = true ↔ TableWriteFits code ps := by
  have hc : ∀ n : Nat, n < 256 → (code.toNat = n ↔ code = BitVec.ofNat 8 n) := fun n hn =>
    ⟨fun h => BitVec.eq_of_toNat_eq (by rw [h]; simp; omega), fun h => by rw [h]; simp; omega⟩
  unfold parseTableChange TableWriteFits
  rw [← parseWriteWeights_isSome, ← parseWriteProfile_isSome, ← parseWriteReasons_isSome, ← parseWriteWindow_isSome,
    ← parseWriteDefault_isSome]
  split
  · next h => simp [(hc _ (by decide)).1 h]
  · next h => simp [(hc _ (by decide)).1 h]
  · next h => simp [(hc _ (by decide)).1 h]
  · next h => simp [(hc _ (by decide)).1 h]
  · next h => simp [(hc _ (by decide)).1 h]
  · next h4 h5 h6 h7 h8 =>
    have hn : ∀ n : Nat, n < 256 → code.toNat ≠ n → code ≠ BitVec.ofNat 8 n := fun n hn h e => h ((hc n hn).2 e)
    have e4 := hn 4 (by decide) h4
    have e5 := hn 5 (by decide) h5
    have e6 := hn 6 (by decide) h6
    have e7 := hn 7 (by decide) h7
    have e8 := hn 8 (by decide) h8
    simp_all

/-! ### Chain loads -/

/-- The fields of entry n of a run of tote entries are those of entry 0 once the entries before it are dropped. -/
theorem getD_entry (a b c d e f : Byte) (rest : List Byte) (i n : Nat) :
    (a :: b :: c :: d :: e :: f :: rest).getD (i + 6 * (n + 1)) 0 = rest.getD (i + 6 * n) 0 := by
  rw [show i + 6 * (n + 1) = i + 6 * n + 6 by omega]
  rfl

/-- Tote entry n of a run of bytes, as its six bytes say (R106, R176). -/
def entryAt (bs : List Byte) (n : Nat) : ToteEntry where
  toteId := bs.getD (0 + 6 * n) 0 ++ bs.getD (1 + 6 * n) 0
  capacity := numAt bs (2 + 6 * n)
  weightLimit := wordAt bs (3 + 6 * n)
  continueFlag := numAt bs (5 + 6 * n) == 1

/-- The fields of tote entry n are in range (R106). -/
def EntryFits (bs : List Byte) (n : Nat) : Prop :=
  1 ≤ numAt bs (2 + 6 * n) ∧ numAt bs (2 + 6 * n) ≤ 60 ∧ 100 ≤ wordAt bs (3 + 6 * n) ∧ wordAt bs (3 + 6 * n) ≤ 30000 ∧
  numAt bs (5 + 6 * n) ≤ 1

theorem entryAt_succ (a b c d e f : Byte) (rest : List Byte) (n : Nat) :
    entryAt (a :: b :: c :: d :: e :: f :: rest) (n + 1) = entryAt rest n := by
  unfold entryAt wordAt numAt
  simp only [show ∀ x, 3 + 6 * x + 1 = 4 + 6 * x by omega, getD_entry]

theorem EntryFits_succ (a b c d e f : Byte) (rest : List Byte) (n : Nat) :
    EntryFits (a :: b :: c :: d :: e :: f :: rest) (n + 1) ↔ EntryFits rest n := by
  unfold EntryFits wordAt numAt
  simp only [show ∀ x, 3 + 6 * x + 1 = 4 + 6 * x by omega, getD_entry]

/-- The bytes of tote entries are whole entries, each in range and read from its own six (R106). -/
theorem parseEntries_eq_some (bs : List Byte) (es : List ToteEntry) : parseEntries bs = some es ↔
    bs.length = 6 * es.length ∧ ∀ (n : Nat) (h : n < es.length), es[n] = entryAt bs n ∧ EntryFits bs n := by
  induction bs using parseEntries.induct generalizing es with
  | case1 =>
    cases es with
    | nil => simp [parseEntries]
    | cons e es => simp [parseEntries]
  | case2 idHi idLo cap limHi limLo cont rest ih =>
    unfold parseEntries
    simp only [Option.bind_eq_bind, Option.bind_eq_some_iff, flagOf_eq_some, Option.ite_none_right_eq_some,
      Option.pure_def, Option.some.injEq, be16_toNat]
    cases es with
    | nil => simp
    | cons e es =>
      simp only [ih, List.cons.injEq, List.length_cons]
      constructor
      · rintro ⟨c, hc, es', ⟨hl, hes⟩, hr, rfl, rfl⟩
        refine ⟨by omega, fun n hn => ?_⟩
        cases n with
        | zero =>
          have : c = (cont.toNat == 1) := by rw [hc]; cases c <;> rfl
          exact ⟨by rw [this]; rfl, hr.1, hr.2.1, hr.2.2.1, hr.2.2.2, by
            show cont.toNat ≤ 1
            rw [hc]; exact Bool.toNat_le c⟩
        | succ n =>
          rw [entryAt_succ, EntryFits_succ]
          exact hes n (by omega)
      · rintro ⟨hl, hes⟩
        obtain ⟨h0, h1, h2, h3, h4, h5⟩ := hes 0 (by omega)
        have h5' : cont.toNat ≤ 1 := h5
        refine ⟨cont.toNat == 1, ?_, es, ⟨by omega, fun n hn => ?_⟩, ⟨h1, h2, h3, h4⟩, h0.symm, rfl⟩
        · have : cont.toNat = 0 ∨ cont.toNat = 1 := by omega
          rcases this with h | h <;> rw [h] <;> rfl
        · have := hes (n + 1) (by omega)
          rw [entryAt_succ, EntryFits_succ] at this
          exact this
  | case3 bs h1 h2 =>
    have hn : parseEntries bs = none := by
      unfold parseEntries
      split
      · exact absurd rfl h1
      · next a b c d e f rest => exact absurd rfl (h2 a b c d e f rest)
      · rfl
    rw [hn]
    refine ⟨fun h => (Option.some_ne_none es h.symm).elim, fun ⟨hl, _⟩ => ?_⟩
    match bs, h1, h2 with
    | [], h1, _ => exact absurd rfl h1
    | a :: b :: c :: d :: e :: f :: rest, _, h2 => exact absurd rfl (h2 a b c d e f rest)
    | [_], _, _ | [_, _], _, _ | [_, _, _], _, _ | [_, _, _, _], _, _ | [_, _, _, _, _], _, _ =>
      simp only [List.length_cons, List.length_nil] at hl
      omega

/-- What a CHAIN_LOAD that passes its checks carries: its chute and its entries (R106). -/
theorem parseChainLoad_eq_some (ps : List Byte) (k : Chute) (es : List ToteEntry) : parseChainLoad ps = some (k, es) ↔
    ChainLoadFits ps ∧ numAt ps 0 = k.val ∧ es.length = numAt ps 1 ∧
      ∀ (n : Nat) (h : n < es.length), es[n] = entryAt (ps.drop 2) n := by
  unfold parseChainLoad
  split
  · next kb count rest =>
    simp only [Option.bind_eq_bind, Option.bind_eq_some_iff, indexOf_eq_some, Option.ite_none_right_eq_some,
      Option.pure_def, Option.some.injEq, Prod.mk.injEq, parseEntries_eq_some]
    have hk : numAt (kb :: count :: rest) 0 = kb.toNat := rfl
    have hc : numAt (kb :: count :: rest) 1 = count.toNat := rfl
    have hf : ∀ n, EntryFits rest n ↔ (1 ≤ numAt (kb :: count :: rest) (4 + 6 * n) ∧
        numAt (kb :: count :: rest) (4 + 6 * n) ≤ 60 ∧ 100 ≤ wordAt (kb :: count :: rest) (5 + 6 * n) ∧
        wordAt (kb :: count :: rest) (5 + 6 * n) ≤ 30000 ∧ numAt (kb :: count :: rest) (7 + 6 * n) ≤ 1) := by
      intro n
      have e : ∀ i, numAt (kb :: count :: rest) (i + 2) = numAt rest i := fun _ => rfl
      unfold EntryFits wordAt
      rw [show 4 + 6 * n = 2 + 6 * n + 2 by omega, show 5 + 6 * n = 3 + 6 * n + 2 by omega,
        show 3 + 6 * n + 2 + 1 = 3 + 6 * n + 1 + 2 by omega, show 7 + 6 * n = 5 + 6 * n + 2 by omega, e, e, e, e,
        show 3 + 6 * n + 2 = 5 + 6 * n by omega]
    unfold ChainLoadFits
    simp only [← hf, hk, hc, List.drop_succ_cons, List.drop_zero, List.length_cons]
    constructor
    · rintro ⟨k', h1, es', ⟨h2, h3⟩, ⟨h4, h5, h6⟩, rfl, rfl⟩
      have := k'.isLt
      exact ⟨⟨by omega, by omega, by omega, h4, h5, fun n hn => (h3 n (by omega)).2⟩, h1, h6, fun n hn => (h3 n hn).1⟩
    · rintro ⟨⟨h1, h2, h3, h4, h5, h6⟩, h7, h8, h9⟩
      exact ⟨k, h7, es, ⟨by omega, fun n hn => ⟨h9 n hn, h6 n (by omega)⟩⟩, ⟨h4, h5, h8⟩, rfl, rfl⟩
  · next h =>
    refine ⟨fun h' => (Option.some_ne_none _ h'.symm).elim, fun h' => ?_⟩
    obtain ⟨⟨hl, -⟩, -⟩ := h'
    match ps, h, hl with
    | a :: b :: rest, h, _ => exact absurd rfl (h a b rest)

/-- CHAIN_LOAD passes its checks (R106). -/
theorem parseChainLoad_isSome (ps : List Byte) : (parseChainLoad ps).isSome = true ↔ ChainLoadFits ps := by
  rw [Option.isSome_iff_exists]
  constructor
  · rintro ⟨⟨k, es⟩, h⟩
    exact ((parseChainLoad_eq_some ps k es).mp h).1
  · intro h
    have hk := h.2.2.1
    exact ⟨(⟨numAt ps 0, by omega⟩, (List.range (numAt ps 1)).map (entryAt (ps.drop 2))),
      (parseChainLoad_eq_some ps _ _).mpr ⟨h, rfl, by simp, by simp⟩⟩

end Sys2Proof.Machine
end

