-- ==== Sys2Proof/Laws/Frames.lean ====
section
/-! SUPPORT. What the frame tests and the frame decoder read of an intact frame, and the ranges of an item result: one lemma for
each. -/

namespace Sys2Proof.Machine

/-- What the decoder reads of an intact frame: each part of it, and a check that is right (R143, R144). -/
structure ReadsFrame (bytes : List Byte) (kind hi lo : Byte) (pl : List Byte) : Prop where
  length : bytes.length = pl.length + 6
  kind : byteAt bytes 0 = kind
  len : byteAt bytes 1 = byteOf pl.length
  hi : byteAt bytes 2 = hi
  lo : byteAt bytes 3 = lo
  payload : framePayload bytes = pl
  check : frameCheck bytes = crc16 (frameBody bytes)

theorem FrameOf.reads {bytes : List Byte} {kind hi lo : Byte} {pl : List Byte} (h : FrameOf bytes kind hi lo pl) :
    ReadsFrame bytes kind hi lo pl := by
  obtain ⟨c1, c0, rfl, hc⟩ := h
  have hl : ([kind, byteOf pl.length, hi, lo] ++ pl ++ [c1, c0]).length = pl.length + 6 := by simp
  have hb : frameBody ([kind, byteOf pl.length, hi, lo] ++ pl ++ [c1, c0]) = [kind, byteOf pl.length, hi, lo] ++ pl := by
    rw [frameBody, hl]
    exact List.take_left' (by simp)
  refine ⟨hl, rfl, rfl, rfl, rfl, ?_, ?_⟩
  · rw [framePayload, hb]
    rfl
  · rw [hb, ← hc, frameCheck, hl]
    simp [byteAt, be16, List.getD_eq_getElem?_getD]

/-- An intact frame of a kind that the port receives, with a length that the kind allows, passes the five tests (R145). -/
theorem FrameOf.passes {port : Port} {bytes : List Byte} {kind hi lo : Byte} {pl : List Byte} {k : InboundKind}
    (h : FrameOf bytes kind hi lo pl) (hk : port.kindOf kind = some k) (ha : k.allows pl.length = true)
    (hl : pl.length ≤ 60) : frameVerdict port bytes = none := by
  have r := h.reads
  have e : (byteOf pl.length).toNat = pl.length := by
    simp [byteOf]
    omega
  have h1 : ¬ (pl.length + 6 < 6 || 66 < pl.length + 6) = true := by
    simp
    omega
  have h2 : ¬ (60 < pl.length || pl.length != pl.length + 6 - 6) = true := by
    simp
    omega
  simp only [frameVerdict, r.length, r.kind, r.len, r.check, hk, e, if_neg h1, if_neg h2, ha, bne_self_eq_false, if_true]
  rfl

/-- An intact frame carries its tray in the low 10 bits of the tray field (R143). -/
theorem FrameOf.tray {bytes : List Byte} {kind hi lo : Byte} {pl : List Byte} {t : Tray} (h : FrameOf bytes kind hi lo pl)
    (ht : t.val = (hi.toNat * 256 + lo.toNat) % 1024) : frameTray bytes = t := by
  apply Fin.ext
  simp [frameTray, h.reads.hi, h.reads.lo, be16_toNat, ht]

/-- The command of an intact frame that passes the tests (R147, R148). -/
theorem FrameOf.decodes {port : Port} {bytes : List Byte} {kind hi lo : Byte} {pl : List Byte} {t : Tray} {k : InboundKind}
    (h : FrameOf bytes kind hi lo pl) (ht : t.val = (hi.toNat * 256 + lo.toNat) % 1024)
    (hk : port.kindOf kind = some k) (ha : k.allows pl.length = true) (hl : pl.length ≤ 60) :
    decodeFrame port bytes = Option.getD (match port with
      | .station p => decodeStation p k t pl
      | .sorter => decodeSorter k t pl
      | .line => decodeLine k t pl) (.frameRejected port bytes) := by
  cases port <;> simp only [decodeFrame, h.passes hk ha hl, h.reads.kind, hk, h.tray ht, h.reads.payload]

/-! ### Fields of bytes (R147) -/

theorem fieldAt_val (n : Nat) [NeZero n] (x : Byte) (lo : Nat) : (fieldAt n x lo).val = x.toNat / 2 ^ lo % n := rfl

theorem getLsbD_toNat (b : Byte) (i : Nat) : (b.getLsbD i).toNat = b.toNat / 2 ^ i % 2 := by
  rw [← BitVec.testBit_toNat, Nat.testBit_eq_decide_div_mod_eq]
  rcases Nat.mod_two_eq_zero_or_one (b.toNat / 2 ^ i) with h | h <;> simp [h]

/-- The INDUCT fields in the places of R147. -/
theorem decodeInduct_fields (pl : List Byte) :
    (decodeInduct pl).category.val = bitsAt pl 0 5 0 ∧ (decodeInduct pl).tier.val = bitsAt pl 1 6 4 ∧
    (decodeInduct pl).reason.val = bitsAt pl 1 3 0 ∧ (decodeInduct pl).season.val = bitsAt pl 2 7 4 ∧
    (decodeInduct pl).size.val = bitsAt pl 2 3 0 ∧ (decodeInduct pl).days.val = wordAt pl 3 % 1024 ∧
    (decodeInduct pl).catalogue.toNat = wordAt pl 5 := by
  refine ⟨rfl, rfl, rfl, rfl, rfl, ?_, be16_toNat _ _⟩
  exact congrArg (· % 1024) (be16_toNat _ _)

/-! ### Ranges -/

/-- The item result of a context in its ranges, with a list of at most 12 entries, is in its own (R14, R157). -/
theorem ContextRanges.itemResult {c : Context} (h : ContextRanges c) (hl : c.observations.length ≤ 12) :
    ItemRanges c.itemResult where
  laps := h.laps
  width := fun ct hct => ⟨(h.target ct hct).1, (h.target ct hct).2.1⟩
  score := h.score
  list := ⟨by simpa [Context.itemResult] using hl, by
    intro o ho
    simp only [Context.itemResult, List.mem_map] at ho
    obtain ⟨x, hx, rfl⟩ := ho
    exact (h.list x hx).2.2.2⟩

end Sys2Proof.Machine
end

