-- ==== Sys2Proof/Laws/State.lean ====
section
/-! SUPPORT. What each update of the state leaves in each of its fields: one lemma for each field of each update, and what is
read of a record after an update of its kind. -/

namespace Sys2Proof.Machine

variable (s : State)

/-! ### modContext -/

@[simp] theorem State.modContext_contexts (i : ContextIndex) (f : Context → Context) : (s.modContext i f).contexts = s.contexts.set i (f (s.context i)) := rfl
@[simp] theorem State.modContext_trayMap (i : ContextIndex) (f : Context → Context) : (s.modContext i f).trayMap = s.trayMap := rfl
@[simp] theorem State.modContext_gradingQueue (i : ContextIndex) (f : Context → Context) : (s.modContext i f).gradingQueue = s.gradingQueue := rfl
@[simp] theorem State.modContext_stampCounter (i : ContextIndex) (f : Context → Context) : (s.modContext i f).stampCounter = s.stampCounter := rfl
@[simp] theorem State.modContext_inFlight (i : ContextIndex) (f : Context → Context) : (s.modContext i f).inFlight = s.inFlight := rfl
@[simp] theorem State.modContext_weights (i : ContextIndex) (f : Context → Context) : (s.modContext i f).weights = s.weights := rfl
@[simp] theorem State.modContext_profiles (i : ContextIndex) (f : Context → Context) : (s.modContext i f).profiles = s.profiles := rfl
@[simp] theorem State.modContext_reasons (i : ContextIndex) (f : Context → Context) : (s.modContext i f).reasons = s.reasons := rfl
@[simp] theorem State.modContext_windows (i : ContextIndex) (f : Context → Context) : (s.modContext i f).windows = s.windows := rfl
@[simp] theorem State.modContext_defaults (i : ContextIndex) (f : Context → Context) : (s.modContext i f).defaults = s.defaults := rfl
@[simp] theorem State.modContext_orders (i : ContextIndex) (f : Context → Context) : (s.modContext i f).orders = s.orders := rfl
@[simp] theorem State.modContext_chutes (i : ContextIndex) (f : Context → Context) : (s.modContext i f).chutes = s.chutes := rfl
@[simp] theorem State.modContext_descriptors (i : ContextIndex) (f : Context → Context) : (s.modContext i f).descriptors = s.descriptors := rfl
@[simp] theorem State.modContext_waitingTotes (i : ContextIndex) (f : Context → Context) : (s.modContext i f).waitingTotes = s.waitingTotes := rfl
@[simp] theorem State.modContext_ports (i : ContextIndex) (f : Context → Context) : (s.modContext i f).ports = s.ports := rfl
@[simp] theorem State.modContext_stationLinks (i : ContextIndex) (f : Context → Context) : (s.modContext i f).stationLinks = s.stationLinks := rfl
@[simp] theorem State.modContext_lineLink (i : ContextIndex) (f : Context → Context) : (s.modContext i f).lineLink = s.lineLink := rfl
@[simp] theorem State.modContext_sorterLink (i : ContextIndex) (f : Context → Context) : (s.modContext i f).sorterLink = s.sorterLink := rfl
@[simp] theorem State.modContext_stationTx (i : ContextIndex) (f : Context → Context) : (s.modContext i f).stationTx = s.stationTx := rfl
@[simp] theorem State.modContext_sorterTx (i : ContextIndex) (f : Context → Context) : (s.modContext i f).sorterTx = s.sorterTx := rfl
@[simp] theorem State.modContext_lineFinishing (i : ContextIndex) (f : Context → Context) : (s.modContext i f).lineFinishing = s.lineFinishing := rfl
@[simp] theorem State.modContext_outbound (i : ContextIndex) (f : Context → Context) : (s.modContext i f).outbound = s.outbound := rfl
@[simp] theorem State.modContext_routes (i : ContextIndex) (f : Context → Context) : (s.modContext i f).routes = s.routes := rfl
@[simp] theorem State.modContext_attention (i : ContextIndex) (f : Context → Context) : (s.modContext i f).attention = s.attention := rfl
@[simp] theorem State.modContext_dropped (i : ContextIndex) (f : Context → Context) : (s.modContext i f).dropped = s.dropped := rfl
@[simp] theorem State.modContext_settings (i : ContextIndex) (f : Context → Context) : (s.modContext i f).settings = s.settings := rfl
@[simp] theorem State.modContext_command (i : ContextIndex) (f : Context → Context) : (s.modContext i f).command = s.command := rfl
@[simp] theorem State.modContext_pending (i : ContextIndex) (f : Context → Context) : (s.modContext i f).pending = s.pending := rfl
@[simp] theorem State.modContext_port (i : ContextIndex) (f : Context → Context) (q : StationPort) : (s.modContext i f).port q = s.port q := rfl
@[simp] theorem State.modContext_chute (i : ContextIndex) (f : Context → Context) (j : Chute) : (s.modContext i f).chute j = s.chute j := rfl
@[simp] theorem State.modContext_descriptor (i : ContextIndex) (f : Context → Context) (e : DescriptorIndex) : (s.modContext i f).descriptor e = s.descriptor e := rfl
@[simp] theorem State.modContext_lookup (i : ContextIndex) (f : Context → Context) (t' : Tray) : (s.modContext i f).lookup t' = s.lookup t' := rfl

/-! ### modPort -/

@[simp] theorem State.modPort_contexts (p : StationPort) (f : PortRecord → PortRecord) : (s.modPort p f).contexts = s.contexts := rfl
@[simp] theorem State.modPort_trayMap (p : StationPort) (f : PortRecord → PortRecord) : (s.modPort p f).trayMap = s.trayMap := rfl
@[simp] theorem State.modPort_gradingQueue (p : StationPort) (f : PortRecord → PortRecord) : (s.modPort p f).gradingQueue = s.gradingQueue := rfl
@[simp] theorem State.modPort_stampCounter (p : StationPort) (f : PortRecord → PortRecord) : (s.modPort p f).stampCounter = s.stampCounter := rfl
@[simp] theorem State.modPort_inFlight (p : StationPort) (f : PortRecord → PortRecord) : (s.modPort p f).inFlight = s.inFlight := rfl
@[simp] theorem State.modPort_weights (p : StationPort) (f : PortRecord → PortRecord) : (s.modPort p f).weights = s.weights := rfl
@[simp] theorem State.modPort_profiles (p : StationPort) (f : PortRecord → PortRecord) : (s.modPort p f).profiles = s.profiles := rfl
@[simp] theorem State.modPort_reasons (p : StationPort) (f : PortRecord → PortRecord) : (s.modPort p f).reasons = s.reasons := rfl
@[simp] theorem State.modPort_windows (p : StationPort) (f : PortRecord → PortRecord) : (s.modPort p f).windows = s.windows := rfl
@[simp] theorem State.modPort_defaults (p : StationPort) (f : PortRecord → PortRecord) : (s.modPort p f).defaults = s.defaults := rfl
@[simp] theorem State.modPort_orders (p : StationPort) (f : PortRecord → PortRecord) : (s.modPort p f).orders = s.orders := rfl
@[simp] theorem State.modPort_chutes (p : StationPort) (f : PortRecord → PortRecord) : (s.modPort p f).chutes = s.chutes := rfl
@[simp] theorem State.modPort_descriptors (p : StationPort) (f : PortRecord → PortRecord) : (s.modPort p f).descriptors = s.descriptors := rfl
@[simp] theorem State.modPort_waitingTotes (p : StationPort) (f : PortRecord → PortRecord) : (s.modPort p f).waitingTotes = s.waitingTotes := rfl
@[simp] theorem State.modPort_ports (p : StationPort) (f : PortRecord → PortRecord) : (s.modPort p f).ports = s.ports.set p (f (s.port p)) := rfl
@[simp] theorem State.modPort_stationLinks (p : StationPort) (f : PortRecord → PortRecord) : (s.modPort p f).stationLinks = s.stationLinks := rfl
@[simp] theorem State.modPort_lineLink (p : StationPort) (f : PortRecord → PortRecord) : (s.modPort p f).lineLink = s.lineLink := rfl
@[simp] theorem State.modPort_sorterLink (p : StationPort) (f : PortRecord → PortRecord) : (s.modPort p f).sorterLink = s.sorterLink := rfl
@[simp] theorem State.modPort_stationTx (p : StationPort) (f : PortRecord → PortRecord) : (s.modPort p f).stationTx = s.stationTx := rfl
@[simp] theorem State.modPort_sorterTx (p : StationPort) (f : PortRecord → PortRecord) : (s.modPort p f).sorterTx = s.sorterTx := rfl
@[simp] theorem State.modPort_lineFinishing (p : StationPort) (f : PortRecord → PortRecord) : (s.modPort p f).lineFinishing = s.lineFinishing := rfl
@[simp] theorem State.modPort_outbound (p : StationPort) (f : PortRecord → PortRecord) : (s.modPort p f).outbound = s.outbound := rfl
@[simp] theorem State.modPort_routes (p : StationPort) (f : PortRecord → PortRecord) : (s.modPort p f).routes = s.routes := rfl
@[simp] theorem State.modPort_attention (p : StationPort) (f : PortRecord → PortRecord) : (s.modPort p f).attention = s.attention := rfl
@[simp] theorem State.modPort_dropped (p : StationPort) (f : PortRecord → PortRecord) : (s.modPort p f).dropped = s.dropped := rfl
@[simp] theorem State.modPort_settings (p : StationPort) (f : PortRecord → PortRecord) : (s.modPort p f).settings = s.settings := rfl
@[simp] theorem State.modPort_command (p : StationPort) (f : PortRecord → PortRecord) : (s.modPort p f).command = s.command := rfl
@[simp] theorem State.modPort_pending (p : StationPort) (f : PortRecord → PortRecord) : (s.modPort p f).pending = s.pending := rfl
@[simp] theorem State.modPort_context (p : StationPort) (f : PortRecord → PortRecord) (j : ContextIndex) : (s.modPort p f).context j = s.context j := rfl
@[simp] theorem State.modPort_chute (p : StationPort) (f : PortRecord → PortRecord) (j : Chute) : (s.modPort p f).chute j = s.chute j := rfl
@[simp] theorem State.modPort_descriptor (p : StationPort) (f : PortRecord → PortRecord) (e : DescriptorIndex) : (s.modPort p f).descriptor e = s.descriptor e := rfl
@[simp] theorem State.modPort_lookup (p : StationPort) (f : PortRecord → PortRecord) (t' : Tray) : (s.modPort p f).lookup t' = s.lookup t' := rfl

/-! ### modChute -/

@[simp] theorem State.modChute_contexts (k : Chute) (f : ChuteRecord → ChuteRecord) : (s.modChute k f).contexts = s.contexts := rfl
@[simp] theorem State.modChute_trayMap (k : Chute) (f : ChuteRecord → ChuteRecord) : (s.modChute k f).trayMap = s.trayMap := rfl
@[simp] theorem State.modChute_gradingQueue (k : Chute) (f : ChuteRecord → ChuteRecord) : (s.modChute k f).gradingQueue = s.gradingQueue := rfl
@[simp] theorem State.modChute_stampCounter (k : Chute) (f : ChuteRecord → ChuteRecord) : (s.modChute k f).stampCounter = s.stampCounter := rfl
@[simp] theorem State.modChute_inFlight (k : Chute) (f : ChuteRecord → ChuteRecord) : (s.modChute k f).inFlight = s.inFlight := rfl
@[simp] theorem State.modChute_weights (k : Chute) (f : ChuteRecord → ChuteRecord) : (s.modChute k f).weights = s.weights := rfl
@[simp] theorem State.modChute_profiles (k : Chute) (f : ChuteRecord → ChuteRecord) : (s.modChute k f).profiles = s.profiles := rfl
@[simp] theorem State.modChute_reasons (k : Chute) (f : ChuteRecord → ChuteRecord) : (s.modChute k f).reasons = s.reasons := rfl
@[simp] theorem State.modChute_windows (k : Chute) (f : ChuteRecord → ChuteRecord) : (s.modChute k f).windows = s.windows := rfl
@[simp] theorem State.modChute_defaults (k : Chute) (f : ChuteRecord → ChuteRecord) : (s.modChute k f).defaults = s.defaults := rfl
@[simp] theorem State.modChute_orders (k : Chute) (f : ChuteRecord → ChuteRecord) : (s.modChute k f).orders = s.orders := rfl
@[simp] theorem State.modChute_chutes (k : Chute) (f : ChuteRecord → ChuteRecord) : (s.modChute k f).chutes = s.chutes.set k (f (s.chute k)) := rfl
@[simp] theorem State.modChute_descriptors (k : Chute) (f : ChuteRecord → ChuteRecord) : (s.modChute k f).descriptors = s.descriptors := rfl
@[simp] theorem State.modChute_waitingTotes (k : Chute) (f : ChuteRecord → ChuteRecord) : (s.modChute k f).waitingTotes = s.waitingTotes := rfl
@[simp] theorem State.modChute_ports (k : Chute) (f : ChuteRecord → ChuteRecord) : (s.modChute k f).ports = s.ports := rfl
@[simp] theorem State.modChute_stationLinks (k : Chute) (f : ChuteRecord → ChuteRecord) : (s.modChute k f).stationLinks = s.stationLinks := rfl
@[simp] theorem State.modChute_lineLink (k : Chute) (f : ChuteRecord → ChuteRecord) : (s.modChute k f).lineLink = s.lineLink := rfl
@[simp] theorem State.modChute_sorterLink (k : Chute) (f : ChuteRecord → ChuteRecord) : (s.modChute k f).sorterLink = s.sorterLink := rfl
@[simp] theorem State.modChute_stationTx (k : Chute) (f : ChuteRecord → ChuteRecord) : (s.modChute k f).stationTx = s.stationTx := rfl
@[simp] theorem State.modChute_sorterTx (k : Chute) (f : ChuteRecord → ChuteRecord) : (s.modChute k f).sorterTx = s.sorterTx := rfl
@[simp] theorem State.modChute_lineFinishing (k : Chute) (f : ChuteRecord → ChuteRecord) : (s.modChute k f).lineFinishing = s.lineFinishing := rfl
@[simp] theorem State.modChute_outbound (k : Chute) (f : ChuteRecord → ChuteRecord) : (s.modChute k f).outbound = s.outbound := rfl
@[simp] theorem State.modChute_routes (k : Chute) (f : ChuteRecord → ChuteRecord) : (s.modChute k f).routes = s.routes := rfl
@[simp] theorem State.modChute_attention (k : Chute) (f : ChuteRecord → ChuteRecord) : (s.modChute k f).attention = s.attention := rfl
@[simp] theorem State.modChute_dropped (k : Chute) (f : ChuteRecord → ChuteRecord) : (s.modChute k f).dropped = s.dropped := rfl
@[simp] theorem State.modChute_settings (k : Chute) (f : ChuteRecord → ChuteRecord) : (s.modChute k f).settings = s.settings := rfl
@[simp] theorem State.modChute_command (k : Chute) (f : ChuteRecord → ChuteRecord) : (s.modChute k f).command = s.command := rfl
@[simp] theorem State.modChute_pending (k : Chute) (f : ChuteRecord → ChuteRecord) : (s.modChute k f).pending = s.pending := rfl
@[simp] theorem State.modChute_context (k : Chute) (f : ChuteRecord → ChuteRecord) (j : ContextIndex) : (s.modChute k f).context j = s.context j := rfl
@[simp] theorem State.modChute_port (k : Chute) (f : ChuteRecord → ChuteRecord) (q : StationPort) : (s.modChute k f).port q = s.port q := rfl
@[simp] theorem State.modChute_descriptor (k : Chute) (f : ChuteRecord → ChuteRecord) (e : DescriptorIndex) : (s.modChute k f).descriptor e = s.descriptor e := rfl
@[simp] theorem State.modChute_lookup (k : Chute) (f : ChuteRecord → ChuteRecord) (t' : Tray) : (s.modChute k f).lookup t' = s.lookup t' := rfl

/-! ### modDescriptor -/

@[simp] theorem State.modDescriptor_contexts (d : DescriptorIndex) (f : Descriptor → Descriptor) : (s.modDescriptor d f).contexts = s.contexts := rfl
@[simp] theorem State.modDescriptor_trayMap (d : DescriptorIndex) (f : Descriptor → Descriptor) : (s.modDescriptor d f).trayMap = s.trayMap := rfl
@[simp] theorem State.modDescriptor_gradingQueue (d : DescriptorIndex) (f : Descriptor → Descriptor) : (s.modDescriptor d f).gradingQueue = s.gradingQueue := rfl
@[simp] theorem State.modDescriptor_stampCounter (d : DescriptorIndex) (f : Descriptor → Descriptor) : (s.modDescriptor d f).stampCounter = s.stampCounter := rfl
@[simp] theorem State.modDescriptor_inFlight (d : DescriptorIndex) (f : Descriptor → Descriptor) : (s.modDescriptor d f).inFlight = s.inFlight := rfl
@[simp] theorem State.modDescriptor_weights (d : DescriptorIndex) (f : Descriptor → Descriptor) : (s.modDescriptor d f).weights = s.weights := rfl
@[simp] theorem State.modDescriptor_profiles (d : DescriptorIndex) (f : Descriptor → Descriptor) : (s.modDescriptor d f).profiles = s.profiles := rfl
@[simp] theorem State.modDescriptor_reasons (d : DescriptorIndex) (f : Descriptor → Descriptor) : (s.modDescriptor d f).reasons = s.reasons := rfl
@[simp] theorem State.modDescriptor_windows (d : DescriptorIndex) (f : Descriptor → Descriptor) : (s.modDescriptor d f).windows = s.windows := rfl
@[simp] theorem State.modDescriptor_defaults (d : DescriptorIndex) (f : Descriptor → Descriptor) : (s.modDescriptor d f).defaults = s.defaults := rfl
@[simp] theorem State.modDescriptor_orders (d : DescriptorIndex) (f : Descriptor → Descriptor) : (s.modDescriptor d f).orders = s.orders := rfl
@[simp] theorem State.modDescriptor_chutes (d : DescriptorIndex) (f : Descriptor → Descriptor) : (s.modDescriptor d f).chutes = s.chutes := rfl
@[simp] theorem State.modDescriptor_descriptors (d : DescriptorIndex) (f : Descriptor → Descriptor) : (s.modDescriptor d f).descriptors = s.descriptors.set d (f (s.descriptor d)) := rfl
@[simp] theorem State.modDescriptor_waitingTotes (d : DescriptorIndex) (f : Descriptor → Descriptor) : (s.modDescriptor d f).waitingTotes = s.waitingTotes := rfl
@[simp] theorem State.modDescriptor_ports (d : DescriptorIndex) (f : Descriptor → Descriptor) : (s.modDescriptor d f).ports = s.ports := rfl
@[simp] theorem State.modDescriptor_stationLinks (d : DescriptorIndex) (f : Descriptor → Descriptor) : (s.modDescriptor d f).stationLinks = s.stationLinks := rfl
@[simp] theorem State.modDescriptor_lineLink (d : DescriptorIndex) (f : Descriptor → Descriptor) : (s.modDescriptor d f).lineLink = s.lineLink := rfl
@[simp] theorem State.modDescriptor_sorterLink (d : DescriptorIndex) (f : Descriptor → Descriptor) : (s.modDescriptor d f).sorterLink = s.sorterLink := rfl
@[simp] theorem State.modDescriptor_stationTx (d : DescriptorIndex) (f : Descriptor → Descriptor) : (s.modDescriptor d f).stationTx = s.stationTx := rfl
@[simp] theorem State.modDescriptor_sorterTx (d : DescriptorIndex) (f : Descriptor → Descriptor) : (s.modDescriptor d f).sorterTx = s.sorterTx := rfl
@[simp] theorem State.modDescriptor_lineFinishing (d : DescriptorIndex) (f : Descriptor → Descriptor) : (s.modDescriptor d f).lineFinishing = s.lineFinishing := rfl
@[simp] theorem State.modDescriptor_outbound (d : DescriptorIndex) (f : Descriptor → Descriptor) : (s.modDescriptor d f).outbound = s.outbound := rfl
@[simp] theorem State.modDescriptor_routes (d : DescriptorIndex) (f : Descriptor → Descriptor) : (s.modDescriptor d f).routes = s.routes := rfl
@[simp] theorem State.modDescriptor_attention (d : DescriptorIndex) (f : Descriptor → Descriptor) : (s.modDescriptor d f).attention = s.attention := rfl
@[simp] theorem State.modDescriptor_dropped (d : DescriptorIndex) (f : Descriptor → Descriptor) : (s.modDescriptor d f).dropped = s.dropped := rfl
@[simp] theorem State.modDescriptor_settings (d : DescriptorIndex) (f : Descriptor → Descriptor) : (s.modDescriptor d f).settings = s.settings := rfl
@[simp] theorem State.modDescriptor_command (d : DescriptorIndex) (f : Descriptor → Descriptor) : (s.modDescriptor d f).command = s.command := rfl
@[simp] theorem State.modDescriptor_pending (d : DescriptorIndex) (f : Descriptor → Descriptor) : (s.modDescriptor d f).pending = s.pending := rfl
@[simp] theorem State.modDescriptor_context (d : DescriptorIndex) (f : Descriptor → Descriptor) (j : ContextIndex) : (s.modDescriptor d f).context j = s.context j := rfl
@[simp] theorem State.modDescriptor_port (d : DescriptorIndex) (f : Descriptor → Descriptor) (q : StationPort) : (s.modDescriptor d f).port q = s.port q := rfl
@[simp] theorem State.modDescriptor_chute (d : DescriptorIndex) (f : Descriptor → Descriptor) (j : Chute) : (s.modDescriptor d f).chute j = s.chute j := rfl
@[simp] theorem State.modDescriptor_lookup (d : DescriptorIndex) (f : Descriptor → Descriptor) (t' : Tray) : (s.modDescriptor d f).lookup t' = s.lookup t' := rfl

/-! ### setMap -/

@[simp] theorem State.setMap_contexts (t : Tray) (v : Option ContextIndex) : (s.setMap t v).contexts = s.contexts := rfl
@[simp] theorem State.setMap_trayMap (t : Tray) (v : Option ContextIndex) : (s.setMap t v).trayMap = s.trayMap.set t v := rfl
@[simp] theorem State.setMap_gradingQueue (t : Tray) (v : Option ContextIndex) : (s.setMap t v).gradingQueue = s.gradingQueue := rfl
@[simp] theorem State.setMap_stampCounter (t : Tray) (v : Option ContextIndex) : (s.setMap t v).stampCounter = s.stampCounter := rfl
@[simp] theorem State.setMap_inFlight (t : Tray) (v : Option ContextIndex) : (s.setMap t v).inFlight = s.inFlight := rfl
@[simp] theorem State.setMap_weights (t : Tray) (v : Option ContextIndex) : (s.setMap t v).weights = s.weights := rfl
@[simp] theorem State.setMap_profiles (t : Tray) (v : Option ContextIndex) : (s.setMap t v).profiles = s.profiles := rfl
@[simp] theorem State.setMap_reasons (t : Tray) (v : Option ContextIndex) : (s.setMap t v).reasons = s.reasons := rfl
@[simp] theorem State.setMap_windows (t : Tray) (v : Option ContextIndex) : (s.setMap t v).windows = s.windows := rfl
@[simp] theorem State.setMap_defaults (t : Tray) (v : Option ContextIndex) : (s.setMap t v).defaults = s.defaults := rfl
@[simp] theorem State.setMap_orders (t : Tray) (v : Option ContextIndex) : (s.setMap t v).orders = s.orders := rfl
@[simp] theorem State.setMap_chutes (t : Tray) (v : Option ContextIndex) : (s.setMap t v).chutes = s.chutes := rfl
@[simp] theorem State.setMap_descriptors (t : Tray) (v : Option ContextIndex) : (s.setMap t v).descriptors = s.descriptors := rfl
@[simp] theorem State.setMap_waitingTotes (t : Tray) (v : Option ContextIndex) : (s.setMap t v).waitingTotes = s.waitingTotes := rfl
@[simp] theorem State.setMap_ports (t : Tray) (v : Option ContextIndex) : (s.setMap t v).ports = s.ports := rfl
@[simp] theorem State.setMap_stationLinks (t : Tray) (v : Option ContextIndex) : (s.setMap t v).stationLinks = s.stationLinks := rfl
@[simp] theorem State.setMap_lineLink (t : Tray) (v : Option ContextIndex) : (s.setMap t v).lineLink = s.lineLink := rfl
@[simp] theorem State.setMap_sorterLink (t : Tray) (v : Option ContextIndex) : (s.setMap t v).sorterLink = s.sorterLink := rfl
@[simp] theorem State.setMap_stationTx (t : Tray) (v : Option ContextIndex) : (s.setMap t v).stationTx = s.stationTx := rfl
@[simp] theorem State.setMap_sorterTx (t : Tray) (v : Option ContextIndex) : (s.setMap t v).sorterTx = s.sorterTx := rfl
@[simp] theorem State.setMap_lineFinishing (t : Tray) (v : Option ContextIndex) : (s.setMap t v).lineFinishing = s.lineFinishing := rfl
@[simp] theorem State.setMap_outbound (t : Tray) (v : Option ContextIndex) : (s.setMap t v).outbound = s.outbound := rfl
@[simp] theorem State.setMap_routes (t : Tray) (v : Option ContextIndex) : (s.setMap t v).routes = s.routes := rfl
@[simp] theorem State.setMap_attention (t : Tray) (v : Option ContextIndex) : (s.setMap t v).attention = s.attention := rfl
@[simp] theorem State.setMap_dropped (t : Tray) (v : Option ContextIndex) : (s.setMap t v).dropped = s.dropped := rfl
@[simp] theorem State.setMap_settings (t : Tray) (v : Option ContextIndex) : (s.setMap t v).settings = s.settings := rfl
@[simp] theorem State.setMap_command (t : Tray) (v : Option ContextIndex) : (s.setMap t v).command = s.command := rfl
@[simp] theorem State.setMap_pending (t : Tray) (v : Option ContextIndex) : (s.setMap t v).pending = s.pending := rfl
@[simp] theorem State.setMap_context (t : Tray) (v : Option ContextIndex) (j : ContextIndex) : (s.setMap t v).context j = s.context j := rfl
@[simp] theorem State.setMap_port (t : Tray) (v : Option ContextIndex) (q : StationPort) : (s.setMap t v).port q = s.port q := rfl
@[simp] theorem State.setMap_chute (t : Tray) (v : Option ContextIndex) (j : Chute) : (s.setMap t v).chute j = s.chute j := rfl
@[simp] theorem State.setMap_descriptor (t : Tray) (v : Option ContextIndex) (e : DescriptorIndex) : (s.setMap t v).descriptor e = s.descriptor e := rfl

/-! ### pushOut -/

@[simp] theorem State.pushOut_contexts (o : OutFrame) : (s.pushOut o).contexts = s.contexts := rfl
@[simp] theorem State.pushOut_trayMap (o : OutFrame) : (s.pushOut o).trayMap = s.trayMap := rfl
@[simp] theorem State.pushOut_gradingQueue (o : OutFrame) : (s.pushOut o).gradingQueue = s.gradingQueue := rfl
@[simp] theorem State.pushOut_stampCounter (o : OutFrame) : (s.pushOut o).stampCounter = s.stampCounter := rfl
@[simp] theorem State.pushOut_inFlight (o : OutFrame) : (s.pushOut o).inFlight = s.inFlight := rfl
@[simp] theorem State.pushOut_weights (o : OutFrame) : (s.pushOut o).weights = s.weights := rfl
@[simp] theorem State.pushOut_profiles (o : OutFrame) : (s.pushOut o).profiles = s.profiles := rfl
@[simp] theorem State.pushOut_reasons (o : OutFrame) : (s.pushOut o).reasons = s.reasons := rfl
@[simp] theorem State.pushOut_windows (o : OutFrame) : (s.pushOut o).windows = s.windows := rfl
@[simp] theorem State.pushOut_defaults (o : OutFrame) : (s.pushOut o).defaults = s.defaults := rfl
@[simp] theorem State.pushOut_orders (o : OutFrame) : (s.pushOut o).orders = s.orders := rfl
@[simp] theorem State.pushOut_chutes (o : OutFrame) : (s.pushOut o).chutes = s.chutes := rfl
@[simp] theorem State.pushOut_descriptors (o : OutFrame) : (s.pushOut o).descriptors = s.descriptors := rfl
@[simp] theorem State.pushOut_waitingTotes (o : OutFrame) : (s.pushOut o).waitingTotes = s.waitingTotes := rfl
@[simp] theorem State.pushOut_ports (o : OutFrame) : (s.pushOut o).ports = s.ports := rfl
@[simp] theorem State.pushOut_stationLinks (o : OutFrame) : (s.pushOut o).stationLinks = s.stationLinks := rfl
@[simp] theorem State.pushOut_lineLink (o : OutFrame) : (s.pushOut o).lineLink = s.lineLink := rfl
@[simp] theorem State.pushOut_sorterLink (o : OutFrame) : (s.pushOut o).sorterLink = s.sorterLink := rfl
@[simp] theorem State.pushOut_stationTx (o : OutFrame) : (s.pushOut o).stationTx = s.stationTx := rfl
@[simp] theorem State.pushOut_sorterTx (o : OutFrame) : (s.pushOut o).sorterTx = s.sorterTx := rfl
@[simp] theorem State.pushOut_lineFinishing (o : OutFrame) : (s.pushOut o).lineFinishing = s.lineFinishing := rfl
@[simp] theorem State.pushOut_outbound (o : OutFrame) : (s.pushOut o).outbound = s.outbound ++ [o] := rfl
@[simp] theorem State.pushOut_routes (o : OutFrame) : (s.pushOut o).routes = s.routes := rfl
@[simp] theorem State.pushOut_attention (o : OutFrame) : (s.pushOut o).attention = s.attention := rfl
@[simp] theorem State.pushOut_dropped (o : OutFrame) : (s.pushOut o).dropped = s.dropped := rfl
@[simp] theorem State.pushOut_settings (o : OutFrame) : (s.pushOut o).settings = s.settings := rfl
@[simp] theorem State.pushOut_command (o : OutFrame) : (s.pushOut o).command = s.command := rfl
@[simp] theorem State.pushOut_pending (o : OutFrame) : (s.pushOut o).pending = s.pending := rfl
@[simp] theorem State.pushOut_context (o : OutFrame) (j : ContextIndex) : (s.pushOut o).context j = s.context j := rfl
@[simp] theorem State.pushOut_port (o : OutFrame) (q : StationPort) : (s.pushOut o).port q = s.port q := rfl
@[simp] theorem State.pushOut_chute (o : OutFrame) (j : Chute) : (s.pushOut o).chute j = s.chute j := rfl
@[simp] theorem State.pushOut_descriptor (o : OutFrame) (e : DescriptorIndex) : (s.pushOut o).descriptor e = s.descriptor e := rfl
@[simp] theorem State.pushOut_lookup (o : OutFrame) (t' : Tray) : (s.pushOut o).lookup t' = s.lookup t' := rfl

/-! ### dropAdvisory -/

@[simp] theorem State.dropAdvisory_contexts : (s.dropAdvisory).contexts = s.contexts := rfl
@[simp] theorem State.dropAdvisory_trayMap : (s.dropAdvisory).trayMap = s.trayMap := rfl
@[simp] theorem State.dropAdvisory_gradingQueue : (s.dropAdvisory).gradingQueue = s.gradingQueue := rfl
@[simp] theorem State.dropAdvisory_stampCounter : (s.dropAdvisory).stampCounter = s.stampCounter := rfl
@[simp] theorem State.dropAdvisory_inFlight : (s.dropAdvisory).inFlight = s.inFlight := rfl
@[simp] theorem State.dropAdvisory_weights : (s.dropAdvisory).weights = s.weights := rfl
@[simp] theorem State.dropAdvisory_profiles : (s.dropAdvisory).profiles = s.profiles := rfl
@[simp] theorem State.dropAdvisory_reasons : (s.dropAdvisory).reasons = s.reasons := rfl
@[simp] theorem State.dropAdvisory_windows : (s.dropAdvisory).windows = s.windows := rfl
@[simp] theorem State.dropAdvisory_defaults : (s.dropAdvisory).defaults = s.defaults := rfl
@[simp] theorem State.dropAdvisory_orders : (s.dropAdvisory).orders = s.orders := rfl
@[simp] theorem State.dropAdvisory_chutes : (s.dropAdvisory).chutes = s.chutes := rfl
@[simp] theorem State.dropAdvisory_descriptors : (s.dropAdvisory).descriptors = s.descriptors := rfl
@[simp] theorem State.dropAdvisory_waitingTotes : (s.dropAdvisory).waitingTotes = s.waitingTotes := rfl
@[simp] theorem State.dropAdvisory_ports : (s.dropAdvisory).ports = s.ports := rfl
@[simp] theorem State.dropAdvisory_stationLinks : (s.dropAdvisory).stationLinks = s.stationLinks := rfl
@[simp] theorem State.dropAdvisory_lineLink : (s.dropAdvisory).lineLink = s.lineLink := rfl
@[simp] theorem State.dropAdvisory_sorterLink : (s.dropAdvisory).sorterLink = s.sorterLink := rfl
@[simp] theorem State.dropAdvisory_stationTx : (s.dropAdvisory).stationTx = s.stationTx := rfl
@[simp] theorem State.dropAdvisory_sorterTx : (s.dropAdvisory).sorterTx = s.sorterTx := rfl
@[simp] theorem State.dropAdvisory_lineFinishing : (s.dropAdvisory).lineFinishing = s.lineFinishing := rfl
@[simp] theorem State.dropAdvisory_outbound : (s.dropAdvisory).outbound = s.outbound := rfl
@[simp] theorem State.dropAdvisory_routes : (s.dropAdvisory).routes = s.routes := rfl
@[simp] theorem State.dropAdvisory_attention : (s.dropAdvisory).attention = s.attention := rfl
@[simp] theorem State.dropAdvisory_dropped : (s.dropAdvisory).dropped = min Config.droppedMax (s.dropped + 1) := rfl
@[simp] theorem State.dropAdvisory_settings : (s.dropAdvisory).settings = s.settings := rfl
@[simp] theorem State.dropAdvisory_command : (s.dropAdvisory).command = s.command := rfl
@[simp] theorem State.dropAdvisory_pending : (s.dropAdvisory).pending = s.pending := rfl
@[simp] theorem State.dropAdvisory_context (j : ContextIndex) : (s.dropAdvisory).context j = s.context j := rfl
@[simp] theorem State.dropAdvisory_port (q : StationPort) : (s.dropAdvisory).port q = s.port q := rfl
@[simp] theorem State.dropAdvisory_chute (j : Chute) : (s.dropAdvisory).chute j = s.chute j := rfl
@[simp] theorem State.dropAdvisory_descriptor (e : DescriptorIndex) : (s.dropAdvisory).descriptor e = s.descriptor e := rfl
@[simp] theorem State.dropAdvisory_lookup (t' : Tray) : (s.dropAdvisory).lookup t' = s.lookup t' := rfl

/-! ### Records after an update of their own table -/

/-- A context read after one context has changed. -/
theorem State.context_modContext (i j : ContextIndex) (f : Context → Context) :
    (s.modContext i f).context j = if i = j then f (s.context i) else s.context j := by
  simp only [State.context, State.modContext, Fin.getElem_fin, Vector.getElem_set, Fin.val_inj]

/-- A port record read after one port has changed. -/
theorem State.port_modPort (p q : StationPort) (f : PortRecord → PortRecord) :
    (s.modPort p f).port q = if p = q then f (s.port p) else s.port q := by
  simp only [State.port, State.modPort, Fin.getElem_fin, Vector.getElem_set, Fin.val_inj]

/-- A chute record read after one chute has changed. -/
theorem State.chute_modChute (k j : Chute) (f : ChuteRecord → ChuteRecord) :
    (s.modChute k f).chute j = if k = j then f (s.chute k) else s.chute j := by
  simp only [State.chute, State.modChute, Fin.getElem_fin, Vector.getElem_set, Fin.val_inj]

/-- A descriptor read after one descriptor has changed. -/
theorem State.descriptor_modDescriptor (d e : DescriptorIndex) (f : Descriptor → Descriptor) :
    (s.modDescriptor d f).descriptor e = if d = e then f (s.descriptor d) else s.descriptor e := by
  simp only [State.descriptor, State.modDescriptor, Fin.getElem_fin, Vector.getElem_set, Fin.val_inj]

/-- The tray map read after one entry has been written. -/
theorem State.lookup_setMap (t t' : Tray) (e : Option ContextIndex) :
    (s.setMap t e).lookup t' = if t = t' then e else s.lookup t' := by
  simp only [State.lookup, State.setMap, Fin.getElem_fin, Vector.getElem_set, Fin.val_inj]

@[simp] theorem State.context_modContext_self (i : ContextIndex) (f : Context → Context) :
    (s.modContext i f).context i = f (s.context i) := by simp [State.context_modContext]

@[simp] theorem State.port_modPort_self (p : StationPort) (f : PortRecord → PortRecord) :
    (s.modPort p f).port p = f (s.port p) := by simp [State.port_modPort]

@[simp] theorem State.chute_modChute_self (k : Chute) (f : ChuteRecord → ChuteRecord) :
    (s.modChute k f).chute k = f (s.chute k) := by simp [State.chute_modChute]

@[simp] theorem State.descriptor_modDescriptor_self (d : DescriptorIndex) (f : Descriptor → Descriptor) :
    (s.modDescriptor d f).descriptor d = f (s.descriptor d) := by simp [State.descriptor_modDescriptor]

@[simp] theorem State.lookup_setMap_self (t : Tray) (e : Option ContextIndex) : (s.setMap t e).lookup t = e := by
  simp [State.lookup_setMap]

/-! ### Two updates of one record are one -/

@[simp] theorem State.modContext_modContext (i : ContextIndex) (f g : Context → Context) :
    (s.modContext i f).modContext i g = s.modContext i (fun c => g (f c)) := by
  unfold State.modContext; simp [State.context]

@[simp] theorem State.modPort_modPort (p : StationPort) (f g : PortRecord → PortRecord) :
    (s.modPort p f).modPort p g = s.modPort p (fun P => g (f P)) := by
  unfold State.modPort; simp [State.port]

@[simp] theorem State.modChute_modChute (k : Chute) (f g : ChuteRecord → ChuteRecord) :
    (s.modChute k f).modChute k g = s.modChute k (fun c => g (f c)) := by
  unfold State.modChute; simp [State.chute]

@[simp] theorem State.modDescriptor_modDescriptor (d : DescriptorIndex) (f g : Descriptor → Descriptor) :
    (s.modDescriptor d f).modDescriptor d g = s.modDescriptor d (fun D => g (f D)) := by
  unfold State.modDescriptor; simp [State.descriptor]

/-- A context written back unchanged leaves the state as it was. -/
@[simp] theorem State.modContext_same (i : ContextIndex) : s.modContext i (fun c => c) = s := by
  simp [State.modContext, State.context]

/-! ### Tables mapped entry by entry -/

@[simp] theorem vecMap_getElem {α β : Type} {n : Nat} (f : α → β) (v : Vector α n) (i : Nat) (h : i < n) :
    (vecMap f v)[i] = f v[i] := by
  simp [vecMap]

/-- A table written entry by entry, read at a place. -/
@[simp] theorem vecOf_getElem {α : Type} {n : Nat} (f : Fin n → α) (i : Nat) (h : i < n) : (vecOf f)[i] = f ⟨i, h⟩ := by
  simp [vecOf]

/-- The class of each port, as a grading that starts now holds it (R39). -/
theorem State.detectedClasses_get (p : StationPort) : s.detectedClasses[p] = (s.port p).detectedClass := by
  simp [State.detectedClasses, State.port]

end Sys2Proof.Machine
end

