-- ==== Sys2Proof/Laws/Ops.lean ====
section
/-! SUPPORT. What each shared operation can do: its frame (every field that it leaves as it was, in one equation), and the cases
of its answer. A field that a frame leaves is read with `congrArg`, or by rewriting with the frame. -/

namespace Sys2Proof.Machine

variable (s : State)

/-! ### The report unit -/

/-- A must-deliver record finds room while the queue holds fewer than 64 entries (R163). -/
theorem State.hasRoom_iff : s.hasRoom = true ↔ s.outbound.length < 64 := decide_eq_true_iff

/-- An advisory record finds room while the queue holds at most 56 entries (R164). -/
theorem State.hasAdvisoryRoom_iff : s.hasAdvisoryRoom = true ↔ s.outbound.length ≤ 56 := by
  have h : s.hasAdvisoryRoom = true ↔ s.outbound.length + 8 ≤ 64 := decide_eq_true_iff
  exact h.trans (by omega)

/-- A dropped advisory record raises the dropped count by 1, up to 255 (R165). -/
theorem State.dropAdvisory_eq :
    s.dropAdvisory = { s with dropped := if s.dropped < 255 then s.dropped + 1 else 255 } := by
  have h : min Config.droppedMax (s.dropped + 1) = if s.dropped < 255 then s.dropped + 1 else 255 := by
    unfold Config.droppedMax
    split <;> omega
  rw [State.dropAdvisory, h]

/-- Offering an event changes the report unit alone. -/
theorem State.offerEvent_frame (a : Advisory) : s.offerEvent a = { s with
    outbound := (s.offerEvent a).outbound, attention := (s.offerEvent a).attention, dropped := (s.offerEvent a).dropped } := by
  unfold State.offerEvent State.admitEvent
  repeat' split
  all_goals rfl

/-- A BUSY result is admitted or counted. -/
theorem State.offerBusy_frame (tag code : Byte) : s.offerBusy tag code =
    { s with outbound := (s.offerBusy tag code).outbound, dropped := (s.offerBusy tag code).dropped } := by
  unfold State.offerBusy
  split <;> rfl

/-- An offered event adds at most one frame, and only to a queue of at most 56. -/
theorem State.offerEvent_outbound (a : Advisory) :
    (s.offerEvent a).outbound = s.outbound ∨
      s.outbound.length ≤ 56 ∧ ∃ n, (s.offerEvent a).outbound = s.outbound ++ [.event a n] := by
  unfold State.offerEvent State.admitEvent
  split
  · exact .inl rfl
  all_goals
    split
    · next h =>
      exact .inr ⟨(State.hasAdvisoryRoom_iff _).mp h, _, rfl⟩
    · exact .inl rfl

/-- The dropped count stays at most 255 when an event is offered. -/
theorem State.offerEvent_dropped_le (a : Advisory) (h : s.dropped ≤ 255) : (s.offerEvent a).dropped ≤ 255 := by
  unfold State.offerEvent State.admitEvent State.dropAdvisory
  repeat' split
  all_goals first | exact h | exact Nat.zero_le _ | exact Nat.min_le_left _ _

/-- An offered item result enters and frees its slot, or nothing changes. -/
theorem State.offerItem_cases (i : ContextIndex) :
    s.outbound.length < 64 ∧ s.offerItem i =
        { s.modContext i (fun _ => {}) with outbound := s.outbound ++ [.item (s.context i).itemResult] } ∨
      64 ≤ s.outbound.length ∧ s.offerItem i = s := by
  unfold State.offerItem
  split
  · next h => exact .inl ⟨s.hasRoom_iff.mp h, rfl⟩
  · next h => exact .inr ⟨Nat.le_of_not_lt (fun l => h (s.hasRoom_iff.mpr l)), rfl⟩

/-- An offered tote record enters and frees its descriptor, or waits behind those before it. -/
theorem State.offerTote_cases (w : WaitingTote) :
    s.outbound.length < 64 ∧ s.offerTote w =
        { s.modDescriptor w.descriptor (fun _ => {}) with outbound := s.outbound ++ [.tote w.record] } ∨
      64 ≤ s.outbound.length ∧ s.offerTote w = { s with waitingTotes := s.waitingTotes ++ [w] } := by
  unfold State.offerTote
  split
  · next h => exact .inl ⟨s.hasRoom_iff.mp h, rfl⟩
  · next h => exact .inr ⟨Nat.le_of_not_lt (fun l => h (s.hasRoom_iff.mpr l)), rfl⟩

/-- What a leave admits: the waiting management result, else a tote record, else an item result, else nothing. -/
theorem State.admitWaiting_cases :
    (∃ r, s.waitingResult = some r ∧ s.admitWaiting = { s with outbound := s.outbound ++ [.mgmt r], command := none }) ∨
      s.waitingResult = none ∧
        ((∃ w, s.nextTote = some w ∧ s.admitWaiting =
            { s.modDescriptor w.descriptor (fun _ => {}) with
              outbound := s.outbound ++ [.tote w.record], waitingTotes := s.waitingTotes.erase w }) ∨
          s.nextTote = none ∧
            ((∃ i, s.nextItem = some i ∧ s.admitWaiting =
                { s.modContext i (fun _ => {}) with outbound := s.outbound ++ [.item (s.context i).itemResult] }) ∨
              s.nextItem = none ∧ s.admitWaiting = s)) := by
  unfold State.admitWaiting
  split
  · next r h => exact .inl ⟨r, h, rfl⟩
  · next h =>
    refine .inr ⟨h, ?_⟩
    split
    · next w hw => exact .inl ⟨w, hw, rfl⟩
    · next hw =>
      refine .inr ⟨hw, ?_⟩
      split
      · next i hi => exact .inl ⟨i, hi, rfl⟩
      · next hi => exact .inr ⟨hi, rfl⟩

/-- The waiting tote record that is chosen does wait. -/
theorem State.nextTote_mem {w : WaitingTote} (h : s.nextTote = some w) : w ∈ s.waitingTotes := by
  obtain ⟨k, -, hk⟩ := List.exists_of_findSome?_eq_some h
  exact List.mem_of_find?_eq_some hk

/-- With a tote record waiting, one is chosen. -/
theorem State.nextTote_isSome (h : s.waitingTotes ≠ []) : s.nextTote.isSome := by
  obtain ⟨w, hw⟩ := List.exists_mem_of_ne_nil _ h
  rw [State.nextTote, List.findSome?_isSome_iff]
  exact ⟨w.record.chute, List.mem_finRange _, by rw [List.find?_isSome]; exact ⟨w, hw, by simp⟩⟩

/-- The oldest of a list is one of it. -/
theorem State.oldestOf_mem {is : List ContextIndex} {i : ContextIndex} (h : s.oldestOf is = some i) : i ∈ is := by
  induction is with
  | nil => simp [State.oldestOf] at h
  | cons j rest ih =>
    unfold State.oldestOf at h
    split at h
    · simp_all
    · next k hk =>
      split at h
      · simp_all
      · exact List.mem_cons_of_mem _ (ih (by rw [hk]; exact h))

/-- A non-empty list has an oldest. -/
theorem State.oldestOf_isSome {is : List ContextIndex} (h : is ≠ []) : (s.oldestOf is).isSome := by
  cases is with
  | nil => exact absurd rfl h
  | cons j rest =>
    unfold State.oldestOf
    split
    · rfl
    · split <;> rfl

/-- The waiting item result that is chosen is of a context in REPORTING. -/
theorem State.nextItem_reporting {i : ContextIndex} (h : s.nextItem = some i) : (s.context i).state = .reporting := by
  have := s.oldestOf_mem h
  simpa using (List.mem_filter.mp this).2

/-- With a context in REPORTING, one is chosen. -/
theorem State.nextItem_isSome {i : ContextIndex} (h : (s.context i).state = .reporting) : s.nextItem.isSome :=
  s.oldestOf_isSome (List.ne_nil_of_mem (List.mem_filter.mpr ⟨List.mem_finRange i, by simpa using h⟩))

/-! ### The management engine -/

/-- The end of an execution changes the queue and the engine alone. -/
theorem State.finish_frame (tag code : Byte) (ps : List Byte) (r : ResultCode) (pl : List Byte) :
    s.finish tag code ps r pl = { s with
      outbound := (s.finish tag code ps r pl).outbound, command := (s.finish tag code ps r pl).command } := by
  unfold State.finish
  dsimp only
  split <;> rfl

/-- What a management command answers: BUSY, the end of its execution, or a wait. -/
theorem State.runCommand_cases (tag code : Byte) (ps : List Byte) (act : State → State × Reply) :
    s.command ≠ none ∧ s.runCommand tag code ps act = s.offerBusy tag code ∨
      s.command = none ∧
        ((∃ t r pl, act s = (t, .done r pl) ∧ s.runCommand tag code ps act = t.finish tag code ps r pl) ∨
          ∃ t, act s = (t, .wait) ∧ s.runCommand tag code ps act =
            { t with command := some { tag := tag, code := code, params := ps, phase := .execution } }) := by
  unfold State.runCommand
  split
  · next h => exact .inl ⟨by simp [h], rfl⟩
  · next h =>
    refine .inr ⟨h, ?_⟩
    split
    · next t r pl ht => exact .inl ⟨t, r, pl, ht, rfl⟩
    · next t ht => exact .inr ⟨t, ht, rfl⟩

/-- A command taken by an idle engine, whose execution ends at once. -/
theorem State.runCommand_done {s t : State} {tag code : Byte} {ps : List Byte} {act : State → State × Reply}
    {r : ResultCode} {pl : List Byte} (h : s.command = none) (ha : act s = (t, .done r pl)) :
    s.runCommand tag code ps act = t.finish tag code ps r pl := by
  simp only [State.runCommand, h, ha]

/-- A command taken by an idle engine, whose execution waits. -/
theorem State.runCommand_wait {s t : State} {tag code : Byte} {ps : List Byte} {act : State → State × Reply}
    (h : s.command = none) (ha : act s = (t, .wait)) : s.runCommand tag code ps act =
      { t with command := some { tag := tag, code := code, params := ps, phase := .execution } } := by
  simp only [State.runCommand, h, ha]

/-! ### Seals, withdrawals and closes -/

/-- The start of a grading takes the head of the queue, or nothing changes. -/
theorem State.startGrading_cases :
    (∃ i rest, s.inFlight = none ∧ s.gradingQueue = i :: rest ∧ s.startGrading =
      { s with gradingQueue := rest, inFlight := some { context := i, classes := s.detectedClasses } }.modContext i
        (fun c => { c with state := .grading })) ∨
      (s.inFlight ≠ none ∨ s.gradingQueue = []) ∧ s.startGrading = s := by
  unfold State.startGrading
  split
  · next i rest hf hq => exact .inl ⟨i, rest, hf, hq, rfl⟩
  · next h =>
    refine .inr ⟨?_, rfl⟩
    by_cases hf : s.inFlight = none
    · refine .inr ?_
      cases hq : s.gradingQueue with
      | nil => rfl
      | cons i rest => exact absurd hq (h i rest hf)
    · exact .inl hf

/-- The start of a grading changes contexts, grading queue and grading in flight alone. -/
theorem State.startGrading_frame : s.startGrading = { s with
    contexts := s.startGrading.contexts, gradingQueue := s.startGrading.gradingQueue,
    inFlight := s.startGrading.inFlight } := by
  unfold State.startGrading
  split <;> rfl

/-- Contexts that join the queue change contexts, grading queue and grading in flight alone. -/
theorem State.enqueue_frame (is : List ContextIndex) : s.enqueue is = { s with
    contexts := (s.enqueue is).contexts, gradingQueue := (s.enqueue is).gradingQueue,
    inFlight := (s.enqueue is).inFlight } := by
  unfold State.enqueue
  dsimp only
  split
  · exact State.startGrading_frame _
  · rfl

/-- A seal changes contexts, grading queue and grading in flight alone. -/
theorem State.seal_frame (i : ContextIndex) : s.seal i = { s with
    contexts := (s.seal i).contexts, gradingQueue := (s.seal i).gradingQueue, inFlight := (s.seal i).inFlight } := by
  unfold State.seal
  split
  · exact State.enqueue_frame _ _
  · rfl

/-- A withdrawal changes contexts, grading queue and grading in flight alone. -/
theorem State.withdraw_frame (p : StationPort) : s.withdraw p = { s with
    contexts := (s.withdraw p).contexts, gradingQueue := (s.withdraw p).gradingQueue,
    inFlight := (s.withdraw p).inFlight } :=
  State.enqueue_frame _ _

/-- An offered item result changes contexts and queue alone. -/
theorem State.offerItem_frame (i : ContextIndex) : s.offerItem i = { s with
    contexts := (s.offerItem i).contexts, outbound := (s.offerItem i).outbound } := by
  unfold State.offerItem
  split <;> rfl

/-- A close changes the item context table and the outbound queue alone. -/
theorem State.closeContext_frame (i : ContextIndex) (o : ItemOutcome) (d : Option Delivery) : s.closeContext i o d = { s with
    contexts := (s.closeContext i o d).contexts, trayMap := (s.closeContext i o d).trayMap,
    gradingQueue := (s.closeContext i o d).gradingQueue, stampCounter := (s.closeContext i o d).stampCounter,
    outbound := (s.closeContext i o d).outbound } := by
  unfold State.closeContext
  dsimp only
  generalize hc : State.offerItem _ _ = t
  have h := hc ▸ State.offerItem_frame _ _
  rw [h]
  split <;> rfl

/-! ### Totes -/

/-- From s to t the tote chain unit and the report unit alone have moved. -/
def TotesMoved (s t : State) : Prop := t = { s with
  chutes := t.chutes, descriptors := t.descriptors, waitingTotes := t.waitingTotes, outbound := t.outbound,
  attention := t.attention, dropped := t.dropped }

theorem TotesMoved.refl : TotesMoved s s := rfl

theorem TotesMoved.trans {s t u : State} (h : TotesMoved s t) (h' : TotesMoved t u) : TotesMoved s u := by
  unfold TotesMoved at *
  rw [h'] at ⊢
  rw [h]

/-- An offered event moves the report unit alone. -/
theorem State.offerEvent_moved (a : Advisory) : TotesMoved s (s.offerEvent a) := by
  have h := s.offerEvent_frame a
  unfold TotesMoved
  rw [h]

theorem State.modChute_moved (k : Chute) (f : ChuteRecord → ChuteRecord) : TotesMoved s (s.modChute k f) := rfl

theorem State.modDescriptor_moved (d : DescriptorIndex) (f : Descriptor → Descriptor) :
    TotesMoved s (s.modDescriptor d f) := rfl

theorem State.offerTote_moved (w : WaitingTote) : TotesMoved s (s.offerTote w) := by
  unfold State.offerTote
  split <;> rfl

theorem State.enterSwapping_moved (k : Chute) : TotesMoved s (s.enterSwapping k) := by
  unfold State.enterSwapping
  split
  · rfl
  · exact (s.modChute_moved _ _).trans (State.offerEvent_moved _ _)

theorem State.closeDescriptor_moved (k : Chute) (d : DescriptorIndex) (c : CloseCause) :
    TotesMoved s (s.closeDescriptor k d c) :=
  (s.modDescriptor_moved _ _).trans (State.offerTote_moved _ _)

theorem State.closeTote_moved (k : Chute) (c : CloseCause) : TotesMoved s (s.closeTote k c) := by
  unfold State.closeTote
  dsimp only
  split
  · rfl
  · have h := fun d => (s.closeDescriptor_moved k d c).trans (State.modChute_moved _ k
      (fun c => { c with active := none, pendingCause := none }))
    split
    · exact (h _).trans (State.enterSwapping_moved _ _)
    · exact ((h _).trans (State.modChute_moved _ _ _)).trans (State.offerEvent_moved _ _)

theorem State.completeClosing_moved (k : Chute) : TotesMoved s (s.completeClosing k) := by
  unfold State.completeClosing
  repeat' split
  all_goals first | exact State.closeTote_moved _ _ _ | rfl

theorem State.countTest_moved (k : Chute) (d : DescriptorIndex) : TotesMoved s (s.countTest k d) := by
  unfold State.countTest
  repeat' split
  all_goals first | exact State.closeTote_moved _ _ _ | rfl

/-- A settled order leaves the list, and beyond that the tote chain unit and the report unit alone move. -/
theorem State.settleRelease_moved (o : DivertOrder) :
    TotesMoved { s with orders := s.orders.erase o } (s.settleRelease o) :=
  (State.modDescriptor_moved _ _ _).trans (State.completeClosing_moved _ _)

theorem State.settleCommit_moved (o : DivertOrder) :
    TotesMoved { s with orders := s.orders.erase o } (s.settleCommit o) :=
  ((State.modDescriptor_moved _ _ _).trans (State.countTest_moved _ _ _)).trans (State.completeClosing_moved _ _)

/-- A stray moves the descriptors alone. -/
theorem State.stray_moved (k : Chute) : TotesMoved s (s.stray k).1 := by
  unfold State.stray
  split <;> rfl

/-! ### Transmitters -/

/-- A frame produced at a station port waits there or is not sent. -/
theorem State.sendStation_frame (p : StationPort) (f : StationFrame) :
    s.sendStation p f = { s with stationTx := (s.sendStation p f).stationTx } := by
  unfold State.sendStation
  split <;> rfl

/-- An answer produced at the sorter port waits there or is lost. -/
theorem State.sendSorter_frame (f : SorterFrame) : s.sendSorter f = { s with sorterTx := (s.sendSorter f).sorterTx } := by
  unfold State.sendSorter
  split <;> rfl

/-- The frames discarded at a station port are those behind the one being sent. -/
theorem State.dropStationTx_frame (p : StationPort) :
    s.dropStationTx p = { s with stationTx := (s.dropStationTx p).stationTx } := rfl

/-- What a station port keeps is its own longest waiting frame while its link is UP; the other ports keep all. -/
theorem State.dropStationTx_stationTx (p q : StationPort) : (s.dropStationTx p).stationTx[q] =
    if q = p then (if s.stationLinks[p] = .up then s.stationTx[p].take 1 else []) else s.stationTx[q] := by
  by_cases h : q = p
  · subst h
    rw [if_pos rfl]
    exact Vector.getElem_set_self ..
  · rw [if_neg h]
    exact Vector.getElem_set_ne p.isLt q.isLt (fun hv => h (Fin.ext hv.symm))

/-! ### Frames of the sorter, and time -/

/-- A frame of the sorter is taken while its link is UP, and changes nothing while it is DOWN. -/
theorem State.sorterFrame_cases (taken : State) :
    s.sorterLink = .up ∧ s.sorterFrame taken = taken ∨ s.sorterLink = .down ∧ s.sorterFrame taken = s := by
  unfold State.sorterFrame
  cases h : s.sorterLink
  · exact .inr ⟨rfl, rfl⟩
  · exact .inl ⟨rfl, rfl⟩

/-- A port's timer is due only with no time left, in the state whose row takes it. -/
theorem PortRecord.due_eq_some {P : PortRecord} {p : StationPort} {c : Instr} : P.due p = some c ↔
    P.timer = some 0 ∧ (P.state = .probing ∧ c = .probeWindowExpiry p ∨ P.state = .pausing ∧ c = .pauseTimeout p ∨
      P.state = .resuming ∧ c = .resumeTimeout p) := by
  unfold PortRecord.due
  rcases P.timer with _ | _ | n <;> cases P.state <;> simp [eq_comm]

/-- What a step with no command waiting takes: a port's timer that is due, else an order with no time left. -/
theorem State.due_cases {c : Instr} (h : s.due = some c) :
    (∃ p, (s.port p).due p = some c) ∨
      (∀ p, (s.port p).due p = none) ∧ ∃ o ∈ s.orders, o.remaining = 0 ∧ c = .orderExpiry o.tray o.chute := by
  unfold State.due at h
  split at h
  · next d hd =>
    obtain ⟨p, -, hp⟩ := List.exists_of_findSome?_eq_some hd
    exact .inl ⟨p, hp.trans h⟩
  · next hd =>
    refine .inr ⟨fun p => List.findSome?_eq_none_iff.mp hd p (List.mem_finRange p), ?_⟩
    obtain ⟨o, ho, hc⟩ := Option.map_eq_some_iff.mp h
    exact ⟨o, List.mem_of_find?_eq_some ho, by simpa using List.find?_some ho, hc.symm⟩

/-! ### The command in progress -/

/-- The end of an execution phase does not read the command in progress. -/
theorem State.finish_command (s : State) (c : Option Command) (tag code : Byte) (params : List Byte) (r : ResultCode)
    (payload : List Byte) : State.finish { s with command := c } tag code params r payload = s.finish tag code params r payload :=
  rfl

end Sys2Proof.Machine
end

