-- ==== Sys2Proof/Laws/Intake.lean ====
section
/-! SUPPORT. What the routing tests and the taking of a record can do (R12). -/

namespace Sys2Proof.Machine

variable (s : State)

/-- A record is merged exactly where the tray's context is OPEN and expects the port, whose class allows the kind (R12). -/
theorem State.routeRecord_merged (p : StationPort) (t : Tray) (k : RecordKind) (i : ContextIndex) :
    s.routeRecord p t k = .inr i ↔ s.lookup t = some i ∧ (s.context i).state = .opened ∧
      portIn p (s.context i).expected = true ∧ (s.port p).detectedClass.allows k = true := by
  unfold State.routeRecord
  split
  · simp_all
  · rename_i j h
    (repeat' split) <;> simp_all <;> rintro rfl <;> simp_all

/-- A record is discarded NO_CONTEXT exactly where its tray has no live context (R12). -/
theorem State.routeRecord_noContext (p : StationPort) (t : Tray) (k : RecordKind) :
    s.routeRecord p t k = .inl .noContext ↔ s.lookup t = none := by
  unfold State.routeRecord
  split
  · simp_all
  · (repeat' split) <;> simp_all

/-- A record is discarded LATE exactly where its tray's context is past OPEN (R12, R20). -/
theorem State.routeRecord_late (p : StationPort) (t : Tray) (k : RecordKind) :
    s.routeRecord p t k = .inl .late ↔ ∃ i, s.lookup t = some i ∧ (s.context i).state ≠ .opened := by
  unfold State.routeRecord
  split
  · simp_all
  · (repeat' split) <;> simp_all

/-- A record is discarded UNEXPECTED_PORT exactly where its tray's context is OPEN and does not expect the port (R12). -/
theorem State.routeRecord_unexpectedPort (p : StationPort) (t : Tray) (k : RecordKind) :
    s.routeRecord p t k = .inl .unexpectedPort ↔
      ∃ i, s.lookup t = some i ∧ (s.context i).state = .opened ∧ portIn p (s.context i).expected = false := by
  unfold State.routeRecord
  split
  · simp_all
  · (repeat' split) <;> simp_all

/-- What is taken is the head of the queue, where it is of the kind taken: it leaves, the RELEASE test follows, and the record is
routed (R12, R141). -/
theorem State.takeRecord_head {p : StationPort} {r : ObsRecord} {rest : List ObsRecord} {k : RecordKind}
    (h : (s.port p).inbound = r :: rest) (hk : r.body.kind = k) (merge : RecordBody → State → ContextIndex → State) :
    s.takeRecord p k merge =
      ((s.modPort p (fun P => { P with inbound := rest })).releaseTest p).routeAndMerge p r (merge r.body) := by
  unfold State.takeRecord
  rw [h]
  exact if_pos hk

end Sys2Proof.Machine
end

