-- ==== Sys2Proof/Laws/PerInstr.lean ====
section
/-! SUPPORT. A law of every command as syntax: the frame that brings it, if a frame does, has 6 to 66 bytes between its
delimiters (R143). A FRAME_REJECTED carries bytes that need not. -/

namespace Sys2Proof.Laws

/-- A frame with a payload of at most 60 bytes has 6 to 66 bytes. -/
theorem frameBytes_length (kind : Byte) (tray : Tray) (payload : List Byte) :
    (frameBytes kind tray payload).length = payload.length + 6 := by
  simp [frameBytes, bytes2]

/-- The frame that brings command i has 6 to 66 bytes, unless i is the rejection of one. -/
def Fits.Statement (i : Instr) : Prop :=
  ∀ port bytes, WellFormed i = true → encodeFrame i = some (port, bytes) →
    (∃ q bs, i = .frameRejected q bs) ∨ 6 ≤ bytes.length ∧ bytes.length ≤ 66

/-- A command that no frame brings. -/
theorem fits_of_none {i : Instr} (h : encodeFrame i = none) : Fits.Statement i := by
  intro port bytes _ h'
  rw [h] at h'
  cases h'

/-- A command that a frame of at most 60 payload bytes brings. -/
theorem fits_of_frame {i : Instr} {port : Port} {kind : Byte} {tray : Tray} {payload : List Byte}
    (h : encodeFrame i = some (port, frameBytes kind tray payload)) (hp : payload.length ≤ 60) : Fits.Statement i := by
  intro p bytes _ h'
  rw [h] at h'
  cases h'
  rw [frameBytes_length]
  exact .inr ⟨by omega, by omega⟩

/-- A management command with at most 58 parameter bytes. -/
theorem fits_of_mgmt {i : Instr} {tag code : Byte} {params : List Byte}
    (h : encodeFrame i = some (mgmtFrame tag code params)) (hp : WellFormed i = true → paramsFit params = true) :
    Fits.Statement i := by
  intro p bytes hw h'
  rw [h] at h'
  cases h'
  have hl : params.length ≤ 58 := by simpa [paramsFit] using hp hw
  rw [frameBytes_length, List.length_cons, List.length_cons]
  exact .inr ⟨by omega, by omega⟩

theorem Fits.induct (tray : Tray) (item : InductItem) : Fits.Statement (.induct tray item) :=
  fits_of_frame rfl (Nat.le_of_ble_eq_true rfl)

theorem Fits.configure (tag : Byte) (params : List Byte) : Fits.Statement (.configure tag params) :=
  fits_of_mgmt rfl id

theorem Fits.portConfig (tag : Byte) (params : List Byte) : Fits.Statement (.portConfig tag params) :=
  fits_of_mgmt rfl id

theorem Fits.goDetach (tag : Byte) (params : List Byte) : Fits.Statement (.goDetach tag params) :=
  fits_of_mgmt rfl (fun h => (Bool.and_eq_true_iff.mp h).1)

theorem Fits.goListen (tag : Byte) (params : List Byte) : Fits.Statement (.goListen tag params) :=
  fits_of_mgmt rfl (fun h => (Bool.and_eq_true_iff.mp h).1)

theorem Fits.goProbe (tag : Byte) (params : List Byte) : Fits.Statement (.goProbe tag params) :=
  fits_of_mgmt rfl (fun h => (Bool.and_eq_true_iff.mp h).1)

theorem Fits.goReady (tag : Byte) (params : List Byte) : Fits.Statement (.goReady tag params) :=
  fits_of_mgmt rfl (fun h => (Bool.and_eq_true_iff.mp h).1)

theorem Fits.goPause (tag : Byte) (params : List Byte) : Fits.Statement (.goPause tag params) :=
  fits_of_mgmt rfl (fun h => (Bool.and_eq_true_iff.mp h).1)

theorem Fits.goResume (tag : Byte) (params : List Byte) : Fits.Statement (.goResume tag params) :=
  fits_of_mgmt rfl (fun h => (Bool.and_eq_true_iff.mp h).1)

theorem Fits.goListenToReady (tag : Byte) (params : List Byte) : Fits.Statement (.goListenToReady tag params) :=
  fits_of_mgmt rfl (fun h => (Bool.and_eq_true_iff.mp h).1)

theorem Fits.writeWeights (tag : Byte) (params : List Byte) : Fits.Statement (.writeWeights tag params) :=
  fits_of_mgmt rfl id

theorem Fits.writeProfile (tag : Byte) (params : List Byte) : Fits.Statement (.writeProfile tag params) :=
  fits_of_mgmt rfl id

theorem Fits.writeReasons (tag : Byte) (params : List Byte) : Fits.Statement (.writeReasons tag params) :=
  fits_of_mgmt rfl id

theorem Fits.writeWindow (tag : Byte) (params : List Byte) : Fits.Statement (.writeWindow tag params) :=
  fits_of_mgmt rfl id

theorem Fits.writeDefault (tag : Byte) (params : List Byte) : Fits.Statement (.writeDefault tag params) :=
  fits_of_mgmt rfl id

theorem Fits.tableWrite : Fits.Statement .tableWrite :=
  fits_of_none rfl

theorem Fits.chainLoad (tag : Byte) (params : List Byte) : Fits.Statement (.chainLoad tag params) :=
  fits_of_mgmt rfl id

theorem Fits.chainClear (tag : Byte) (params : List Byte) : Fits.Statement (.chainClear tag params) :=
  fits_of_mgmt rfl id

theorem Fits.enable (tag : Byte) (params : List Byte) : Fits.Statement (.enable tag params) :=
  fits_of_mgmt rfl (fun h => (Bool.and_eq_true_iff.mp h).1)

theorem Fits.disable (tag : Byte) (params : List Byte) : Fits.Statement (.disable tag params) :=
  fits_of_mgmt rfl (fun h => (Bool.and_eq_true_iff.mp h).1)

theorem Fits.closeNow (tag : Byte) (params : List Byte) : Fits.Statement (.closeNow tag params) :=
  fits_of_mgmt rfl (fun h => (Bool.and_eq_true_iff.mp h).1)

theorem Fits.advance (tag : Byte) (params : List Byte) : Fits.Statement (.advance tag params) :=
  fits_of_mgmt rfl (fun h => (Bool.and_eq_true_iff.mp h).1)

theorem Fits.abandonTray (tag : Byte) (params : List Byte) : Fits.Statement (.abandonTray tag params) :=
  fits_of_mgmt rfl id

theorem Fits.readContext (tag : Byte) (params : List Byte) : Fits.Statement (.readContext tag params) :=
  fits_of_mgmt rfl id

theorem Fits.readChute (tag : Byte) (params : List Byte) : Fits.Statement (.readChute tag params) :=
  fits_of_mgmt rfl id

theorem Fits.readTable (tag : Byte) (params : List Byte) : Fits.Statement (.readTable tag params) :=
  fits_of_mgmt rfl id

theorem Fits.readStatus (tag : Byte) (params : List Byte) : Fits.Statement (.readStatus tag params) :=
  fits_of_mgmt rfl id

theorem Fits.eventRoute (tag : Byte) (params : List Byte) : Fits.Statement (.eventRoute tag params) :=
  fits_of_mgmt rfl id

theorem Fits.ackAttention (tag : Byte) (params : List Byte) : Fits.Statement (.ackAttention tag params) :=
  fits_of_mgmt rfl id

theorem Fits.softReset (tag : Byte) (params : List Byte) : Fits.Statement (.softReset tag params) :=
  fits_of_mgmt rfl id

theorem Fits.badCommand (tag code : Byte) (params : List Byte) : Fits.Statement (.badCommand tag code params) :=
  fits_of_mgmt rfl (fun h => (Bool.and_eq_true_iff.mp h).1)

theorem Fits.obsDefect (port : StationPort) (tray : Tray) (code : Fin 128) (zone : Fin 4) (extent : Fin 8) : Fits.Statement (.obsDefect port tray code zone extent) :=
  fits_of_frame rfl (Nat.le_of_ble_eq_true rfl)

theorem Fits.obsTag (port : StationPort) (tray : Tray) (present mismatch : Bool) : Fits.Statement (.obsTag port tray present mismatch) :=
  fits_of_frame rfl (Nat.le_of_ble_eq_true rfl)

theorem Fits.obsWeight (port : StationPort) (tray : Tray) (grams : BitVec 16) : Fits.Statement (.obsWeight port tray grams) :=
  fits_of_frame rfl (Nat.le_of_ble_eq_true rfl)

theorem Fits.itemDone (port : StationPort) (tray : Tray) : Fits.Statement (.itemDone port tray) :=
  fits_of_frame rfl (Nat.le_of_ble_eq_true rfl)

theorem Fits.announce (port : StationPort) (cls cap : Byte) : Fits.Statement (.announce port cls cap) :=
  fits_of_frame rfl (Nat.le_of_ble_eq_true rfl)

theorem Fits.pauseAck (port : StationPort) : Fits.Statement (.pauseAck port) :=
  fits_of_frame rfl (Nat.le_of_ble_eq_true rfl)

theorem Fits.resumeAck (port : StationPort) : Fits.Statement (.resumeAck port) :=
  fits_of_frame rfl (Nat.le_of_ble_eq_true rfl)

theorem Fits.idle (port : StationPort) : Fits.Statement (.idle port) :=
  fits_of_frame rfl (Nat.le_of_ble_eq_true rfl)

theorem Fits.frameRejected (port : Port) (bytes : List Byte) : Fits.Statement (.frameRejected port bytes) :=
  fun _ _ _ _ => .inl ⟨_, _, rfl⟩

theorem Fits.probeWindowExpiry (port : StationPort) : Fits.Statement (.probeWindowExpiry port) :=
  fits_of_none rfl

theorem Fits.pauseTimeout (port : StationPort) : Fits.Statement (.pauseTimeout port) :=
  fits_of_none rfl

theorem Fits.resumeTimeout (port : StationPort) : Fits.Statement (.resumeTimeout port) :=
  fits_of_none rfl

theorem Fits.takeDefectRecord (port : StationPort) : Fits.Statement (.takeDefectRecord port) :=
  fits_of_none rfl

theorem Fits.takeTagRecord (port : StationPort) : Fits.Statement (.takeTagRecord port) :=
  fits_of_none rfl

theorem Fits.takeWeightRecord (port : StationPort) : Fits.Statement (.takeWeightRecord port) :=
  fits_of_none rfl

theorem Fits.takeItemDoneRecord (port : StationPort) : Fits.Statement (.takeItemDoneRecord port) :=
  fits_of_none rfl

theorem Fits.gradingStart : Fits.Statement .gradingStart :=
  fits_of_none rfl

theorem Fits.gradingCompletion : Fits.Statement .gradingCompletion :=
  fits_of_none rfl

theorem Fits.decisionReq (tray : Tray) : Fits.Statement (.decisionReq tray) :=
  fits_of_frame rfl (Nat.le_of_ble_eq_true rfl)

theorem Fits.divertDone (tray : Tray) (chute : Chute) : Fits.Statement (.divertDone tray chute) :=
  fits_of_frame rfl (Nat.le_of_ble_eq_true rfl)

theorem Fits.divertMissed (tray : Tray) (chute : Chute) : Fits.Statement (.divertMissed tray chute) :=
  fits_of_frame rfl (Nat.le_of_ble_eq_true rfl)

theorem Fits.orderExpiry (tray : Tray) (chute : Chute) : Fits.Statement (.orderExpiry tray chute) :=
  fits_of_none rfl

theorem Fits.toteFull (chute : Chute) : Fits.Statement (.toteFull chute) :=
  fits_of_frame rfl (Nat.le_of_ble_eq_true rfl)

theorem Fits.toteInPlace (chute : Chute) (toteId : BitVec 16) : Fits.Statement (.toteInPlace chute toteId) :=
  fits_of_frame rfl (Nat.le_of_ble_eq_true rfl)

theorem Fits.chuteJam (chute : Chute) : Fits.Statement (.chuteJam chute) :=
  fits_of_frame rfl (Nat.le_of_ble_eq_true rfl)

theorem Fits.chuteClear (chute : Chute) : Fits.Statement (.chuteClear chute) :=
  fits_of_frame rfl (Nat.le_of_ble_eq_true rfl)

theorem Fits.entrySent : Fits.Statement .entrySent :=
  fits_of_none rfl

theorem Fits.portFrameSent (port : TxPort) : Fits.Statement (.portFrameSent port) :=
  fits_of_none rfl

theorem Fits.linkUp (port : Port) : Fits.Statement (.linkUp port) :=
  fits_of_none rfl

theorem Fits.linkDown (port : Port) : Fits.Statement (.linkDown port) :=
  fits_of_none rfl

theorem Fits.powerOnReset : Fits.Statement .powerOnReset :=
  fits_of_none rfl

end Sys2Proof.Laws
end

