-- ==== Sys2Proof/Tests/Slice0.lean ====
section
/-! SUPPORT. Tests of the model: ill-formed terms refused, frames written out from their layouts, the manual's worked examples,
and small single commands. The CRCs of the written frames come from a separate program that computes R144's check. -/

namespace Sys2Proof.Tests

set_option Elab.async false

open Sys2Proof.Machine

/-! ### Small states -/

/-- The state after a command. -/
def after (c : Instr) (s : State) : State :=
  match exec c s with
  | .next t => t
  | _ => s

/-- The state after a step. -/
def stepped (s : State) : State :=
  match step s with
  | .next t => t
  | _ => s

/-- Reset with every link UP. -/
def linked : State :=
  { State.reset with stationLinks := Vector.replicate 8 .up, lineLink := .up, sorterLink := .up }

/-- A state with port p's record replaced. -/
def withPort (p : StationPort) (P : PortRecord) (s : State) : State := s.modPort p (fun _ => P)

/-- A state with a live context in slot i. -/
def withContext (i : ContextIndex) (c : Context) (s : State) : State :=
  (s.modContext i (fun _ => c)).setMap c.tray (some i)

/-- A state with chute k OPEN on descriptor d. -/
def withTote (k : Chute) (d : DescriptorIndex) (D : Descriptor) (s : State) : State :=
  (s.modDescriptor d (fun _ => { D with state := .active })).modChute k
    (fun c => { c with state := .opened, active := some d })

/-- The garment of the first worked case of chapter 2 (2.14). -/
def knitTop : InductItem :=
  { category := 12, tier := 6, season := 11, size := 9, reason := 2, days := 47, catalogue := 500, orderRef := 0x00010203 }

/-- Its context, OPEN, with the expected ports 0, 1, 2 and 5. -/
def knitContext : Context :=
  { state := .opened, tray := 341, category := 12, tier := 6, season := 11, size := 9, reason := 2, days := 47,
    catalogue := 500, orderRef := 0x00010203, expected := 0x27 }

/-- The profile of its category (2.14). -/
def knitProfile : Profile :=
  { valid := true, defectSet := 3, mandatory := 0b0011, tA := 40, tB := 120, tC := 300, tD := 700, tolerance := 6,
    allowance := 30, rate := 5, cap := 300, tagsRequired := true, tagPoints := 60 }

/-- The detected classes of its ports: 0 LABEL, 1 VISION, 2 SCALE, 5 BENCH (2.14). -/
def knitClasses : Vector StationClass 8 := #v[.label, .vision, .scale, .label, .label, .bench, .label, .label]

/-- The context as it seals (2.14, case 1). -/
def knitSealed : Context :=
  { knitContext with
    state := .queued, reported := 0x27, measured := some 468, tags := some true
    observations := [{ code := 17, zone := 1, extent := 2, points := 12, manual := false },
      { code := 41, zone := 2, extent := 2, points := 60, manual := false }] }

/-- A target of the worked match, offering chutes 6 to 9 (4.8). -/
def rangeTarget : Target := { cls := .restock, first := 6, width := 4, spread := .fill }

/-- The context GRADED B with that target. -/
def knitGraded : Context :=
  { knitSealed with state := .graded, grade := some .b, target := some { target := rangeTarget, window := some 1 } }

/-- A tote of 20 items and 10,000 g with an open end. -/
def smallTote : Descriptor := { toteId := 0x1234, capacity := 20, weightLimit := 10000, readId := 0x1234 }

/-- An order for the context in slot 0 to chute 6 on descriptor 3. -/
def knitOrder : DivertOrder :=
  { tray := 341, chute := 6, descriptor := 3, grams := 468, context := some 0, remaining := 4000 }

/-- The context ORDERED to chute 6, whose tote holds the reservation. -/
def orderedState : State :=
  { withTote 6 3 { smallTote with reservedItems := 1, reservedGrams := 468 }
      (withContext 0 { knitGraded with state := .ordered } linked) with orders := [knitOrder] }

/-- A full outbound queue. -/
def fullQueue : List OutFrame := List.replicate 64 (.event (.inductRefused 5 .noTray) 0)

/-! ### Well-formed terms -/

theorem test_wf_long_params : WellFormed (.configure 1 (List.replicate 59 0)) = false := by decide
theorem test_wf_other_target : WellFormed (.goListen 1 [0, 2]) = false := by decide
theorem test_wf_target_names_none : WellFormed (.goDetach 1 [0, 7]) = true ∧ WellFormed (.goDetach 1 [0, 6]) = false := by decide
theorem test_wf_other_action : WellFormed (.closeNow 1 [0, 3]) = false := by decide
theorem test_wf_action_names_none : WellFormed (.enable 1 [0, 4]) = true ∧ WellFormed (.enable 1 [0, 3]) = false := by decide
theorem test_wf_known_code : WellFormed (.badCommand 1 0x13 []) = false ∧ WellFormed (.badCommand 1 0x14 []) = true := by decide
theorem test_wf_valid_frame_is_not_rejected :
    WellFormed (.frameRejected .sorter [0x30, 0x00, 0x01, 0x56, 0xA1, 0x2B]) = false := by decide +kernel
theorem test_wf_broken_frame :
    WellFormed (.frameRejected .sorter [0x30, 0x00, 0x01, 0x56, 0xA1, 0x2A]) = true := by decide +kernel

/-! ### Frames written out from R143 to R148 -/

/-- The value that R144 gives for the bytes 0x31 to 0x39. -/
theorem test_crc : crc16 [0x31, 0x32, 0x33, 0x34, 0x35, 0x36, 0x37, 0x38, 0x39] = 0x29B1 := by decide +kernel

theorem test_decode_decision_req : decodeFrame .sorter [0x30, 0x00, 0x01, 0x56, 0xA1, 0x2B] = .decisionReq 342 := by
  decide +kernel
theorem test_decode_divert_done :
    decodeFrame .sorter [0x31, 0x01, 0x01, 0x56, 0x06, 0x32, 0xE8] = .divertDone 342 6 := by decide +kernel
theorem test_decode_tote_in_place :
    decodeFrame .sorter [0x34, 0x03, 0x03, 0xFF, 0x06, 0x12, 0x34, 0xA3, 0x72] = .toteInPlace 6 0x1234 := by decide +kernel
theorem test_decode_obs_defect :
    decodeFrame (.station 1) [0x21, 0x02, 0x01, 0x55, 0x11, 0x0A, 0x68, 0xB9] = .obsDefect 1 341 17 1 2 := by decide +kernel
theorem test_decode_obs_tag :
    decodeFrame (.station 0) [0x22, 0x01, 0x01, 0x55, 0x02, 0xCD, 0xB7] = .obsTag 0 341 true false := by decide +kernel
theorem test_decode_obs_weight :
    decodeFrame (.station 2) [0x23, 0x02, 0x01, 0x55, 0x01, 0xD4, 0xCA, 0x39] = .obsWeight 2 341 468 := by decide +kernel
theorem test_decode_announce :
    decodeFrame (.station 1) [0x20, 0x02, 0x03, 0xFF, 0x01, 0x01, 0x08, 0x34] = .announce 1 1 1 := by decide +kernel
theorem test_decode_induct :
    decodeFrame .line [0x10, 0x0B, 0x01, 0x55, 0x0C, 0x62, 0xB9, 0x00, 0x2F, 0x01, 0xF4, 0x00, 0x01, 0x02, 0x03, 0x5E, 0xB5]
      = .induct 341 knitTop := by decide +kernel
theorem test_decode_go_pause :
    decodeFrame .line [0x11, 0x04, 0x03, 0xFF, 0x07, 0x03, 0x00, 0x04, 0x56, 0x29] = .goPause 7 [0, 4] := by decide +kernel
theorem test_decode_advance :
    decodeFrame .line [0x11, 0x04, 0x03, 0xFF, 0x08, 0x0B, 0x06, 0x03, 0xF1, 0x27] = .advance 8 [6, 3] := by decide +kernel
theorem test_decode_unknown_code :
    decodeFrame .line [0x11, 0x02, 0x03, 0xFF, 0x09, 0x14, 0xA9, 0x25] = .badCommand 9 0x14 [] := by decide +kernel

/-- A DIVERT_ORDER as the sorter port sends it. -/
theorem test_divert_order_frame :
    (SorterFrame.divertOrder 342 7).bytes = [0x38, 0x01, 0x01, 0x56, 0x07, 0x8A, 0xB5] := by decide +kernel

/-- A start delimiter inside a frame ends the earlier frame there (R143). -/
theorem test_frames_of_symbols :
    framesOf none [.data 9, .start, .data 1, .start, .data 2, .data 3, .stop, .start, .data 4] = ([[1], [2, 3]], some [4]) := by
  decide

/-! ### Steps -/

theorem test_step_runs_the_front :
    (stepped { linked with pending := [.linkDown .line, .linkUp .line] }).lineLink = .down ∧
    (stepped { linked with pending := [.linkDown .line, .linkUp .line] }).pending = [.linkUp .line] := by decide +kernel

theorem test_idle_step_passes_a_millisecond :
    ((stepped (withPort 2 { state := .probing, timer := some 25 } linked)).port 2).timer = some 24 := by decide +kernel

/-! ### Induction and intake -/

theorem test_induct_opens : ((after (.induct 341 knitTop) (withPort 3 { state := .ready } linked)).context 0).expected = 8 := by
  decide +kernel
theorem test_induct_without_ports_seals : ((after (.induct 341 knitTop) linked).context 0).state = .grading := by
  decide +kernel
theorem test_take_defect_at_a_basic_port :
    ((after (.takeDefectRecord 5)
      (withPort 5 { state := .ready, detectedClass := .bench, inbound := [{ tray := 341, body := .defect 41 0 1 }] }
        (withContext 0 knitContext { linked with
          profiles := linked.profiles.set 12 knitProfile
          weights := linked.weights.set 3 (linked.weights[3].set 41 { weight := 30, manual := false }) }))).context
      0).observations = [{ code := 41, zone := 2, extent := 2, points := 60, manual := false }] := by decide +kernel
theorem test_take_tag_absent_stays :
    ((after (.takeTagRecord 0)
      (withPort 0 { state := .ready, detectedClass := .label, inbound := [{ tray := 341, body := .tag true false }] }
        (withContext 0 { knitContext with tags := some false } linked))).context 0).tags = some false := by decide +kernel
theorem test_take_weight_clamps :
    ((after (.takeWeightRecord 2)
      (withPort 2 { state := .ready, detectedClass := .scale, inbound := [{ tray := 341, body := .weight 20001 }] }
        (withContext 0 knitContext linked))).context 0).measured = some 20000 := by decide +kernel
theorem test_take_last_item_done_seals :
    ((after (.takeItemDoneRecord 5)
      (withPort 5 { state := .ready, detectedClass := .bench, inbound := [{ tray := 341, body := .itemDone }] }
        (withContext 0 { knitContext with reported := 0x07 } linked))).context 0).state = .grading := by decide +kernel

/-- The list of the worked example 1.11 when it is full: codes, points and manual flags. -/
def fullList : List Observation :=
  [(3, 24, false), (8, 10, false), (11, 36, false), (17, 12, true), (22, 10, false), (30, 48, false), (41, 60, false),
    (52, 15, false), (60, 20, false), (66, 18, false), (71, 40, false), (90, 30, false)].map
    (fun e => { code := e.1, zone := 0, extent := 1, points := e.2.1, manual := e.2.2 })

/-- 1.11, step b: 10 points against 10 are dropped, and the manual flag is kept in manual dropped. -/
theorem test_overflow_drops_an_equal_record :
    let c := ({ knitContext with observations := fullList } : Context).mergeDefect
      { code := 99, zone := 0, extent := 4, points := 10, manual := true }
    c.observations = fullList ∧ c.overflow = true ∧ c.manualDropped = true := by decide +kernel
/-- 1.11, step c: position 5 of the two smallest gives way. -/
theorem test_overflow_replaces_nearest_the_end :
    (({ knitContext with observations := fullList } : Context).mergeDefect
      { code := 104, zone := 2, extent := 2, points := defectPoints 13 2 2, manual := false }).observations[4]?
      = some { code := 104, zone := 2, extent := 2, points := 26, manual := false } := by decide +kernel
/-- The example of R17. -/
theorem test_weight_kept :
    weightKept 500 (some 468) 530 = 468 ∧ weightKept 500 (some 468) 540 = 540 ∧ weightKept 500 (some 468) 532 = 468 := by
  decide

/-! ### Gradings -/

/-- 2.14, case 1. -/
theorem test_score_of_the_knit_top :
    scoreOf knitProfile (-20) knitSealed = { defect := 72, weight := 0, age := 10, tag := 0, reason := -20, total := 62 } := by
  decide +kernel
/-- 2.14, case 2, the light scarf. -/
theorem test_score_of_the_scarf :
    scoreOf { valid := true, tA := 50, tB := 150, tC := 400, tD := 900, tolerance := 6, allowance := 60, rate := 20, cap := 500,
              tagsRequired := true, tagPoints := 80 } 0
      { days := 1023, catalogue := 20, measured := some 95, tags := some false,
        observations := [{ code := 41, zone := 2, extent := 2, points := 56, manual := false }] }
      = { defect := 56, weight := 400, age := 0, tag := 80, reason := 0, total := 536 } := by decide +kernel
/-- 2.14, case 2, the garment at every ceiling. -/
theorem test_score_at_every_ceiling :
    scoreOf { valid := true, tolerance := 10, allowance := 30, rate := 50, cap := 1000, tagsRequired := true, tagPoints := 255 }
      127 { days := 400, catalogue := 800, measured := some 1600, tags := some false,
            observations := List.replicate 12 { code := 1, zone := 2, extent := 4, points := 1020, manual := false } }
      = { defect := 4095, weight := 400, age := 1000, tag := 255, reason := 127, total := 4095 } := by decide +kernel
/-- 2.14, case 2, the garment with nothing against it but its reason: the total is clamped at 0. -/
theorem test_total_is_not_negative : totalOf 0 0 0 0 (-128) = 0 := by decide
/-- 2.14, case 2: reported port 1 holds no LABEL port. -/
theorem test_missing_mandatory : missingMandatory 0b0001 knitClasses 0x02 = true := by decide +kernel
theorem test_completion_grades_b :
    ((after .gradingCompletion { withContext 0 { knitSealed with state := .grading } linked with
      profiles := linked.profiles.set 12 knitProfile
      reasons := linked.reasons.set 2 (BitVec.ofInt 8 (-20))
      inFlight := some { context := 0, classes := knitClasses } }).context 0).grade = some .b := by decide +kernel
theorem test_grading_start : ((after .gradingStart { withContext 0 knitSealed linked with gradingQueue := [0] }).context
    0).state = .grading := by decide +kernel

/-! ### Tables and windows -/

theorem test_write_weights :
    ((after (.writeWeights 1 [3, 126, 2, 0x00, 0x00, 0x00, 0x02, 9, 200]) linked).weights[(3 : Fin 16)][(127 : Fin 128)])
      = { weight := 200, manual := true } := by decide +kernel
theorem test_write_weights_past_127_is_refused : parseWriteWeights [3, 126, 3, 0, 0, 0, 2, 9, 200, 1] = none := by decide +kernel
theorem test_write_profile :
    (after (.writeProfile 1 [12, 1, 3, 3, 0, 40, 0, 120, 1, 44, 2, 188, 6, 0, 30, 5, 1, 44, 1, 60]) linked).profiles[(12 : Fin 64)]
      = knitProfile := by decide +kernel
theorem test_write_profile_out_of_order_is_refused :
    parseWriteProfile [12, 1, 3, 3, 0, 121, 0, 120, 1, 44, 2, 188, 6, 0, 30, 5, 1, 44, 1, 60] = none := by decide +kernel
theorem test_write_reasons :
    (after (.writeReasons 1 [0, 0, 0xEC, 0, 0, 0, 0, 0, 0, 0x80, 0, 0, 0, 0, 0, 0]) linked).reasons[(9 : Fin 16)].toInt
      = -128 := by decide +kernel
/-- The rewritten window 0 of the worked match 4.8. -/
theorem test_write_window :
    (after (.writeWindow 1 [2, 0, 1, 12, 0xF0, 0, 15, 0xFF, 0xFF, 0, 16, 8, 0]) linked).windows[(1 : Fin 6)][(0 : Fin 8)]
      = { enabled := true, category := some 12, tiers := 0xF0, lo := 0, hi := 15, reasons := 0xFFFF,
          target := { cls := .restock, first := 16, width := 8, spread := .size } } := by decide +kernel
theorem test_write_default_past_31_is_refused : parseWriteDefault [2, 0, 30, 3, 0] = none := by decide +kernel
theorem test_write_default :
    (after (.writeDefault 1 [6, 1, 12, 3, 1]) linked).defaults[(5 : Fin 6)]
      = { cls := .outlet, first := 12, width := 3, spread := .fill } := by decide +kernel
theorem test_waiting_write_is_taken :
    (after .tableWrite { linked with
      command := some { tag := 1, code := 0x08, params := [6, 1, 12, 3, 1], phase := .execution } }).defaults[(5 : Fin 6)].first
      = 12 := by decide +kernel
/-- The candidates of the worked match 4.8. -/
theorem test_candidates :
    (⟨.restock, 0, 6, .size⟩ : Target).candidates 9 = [3] ∧ rangeTarget.candidates 4 = [6, 7, 8, 9] ∧
      (⟨.restock, 16, 8, .size⟩ : Target).candidates 13 = [21] := by decide +kernel
/-- Context 42 of the worked match 4.8 is taken by window 2. -/
theorem test_worked_match :
    let w0 : Window := { enabled := true, category := some 12, tiers := 0xE0 }
    let w1 : Window := { enabled := true, lo := 10, hi := 15, reasons := 0x000C }
    let w2 : Window := { enabled := true, target := { cls := .outlet, first := 12, width := 3, spread := .fill } }
    ({ linked with windows := linked.windows.set 1 (((linked.windows[1].set 0 w0).set 1 w1).set 2 w2) } : State).chooseTarget .b
      { category := 30, tier := 2, season := 3, reason := 7, size := 1 } = { target := w2.target, window := some 2 } := by
  decide +kernel

/-! ### Station ports -/

theorem test_port_config : ((after (.portConfig 1 [3, 2]) linked).port 3).expectedClass = .scale := by decide +kernel
theorem test_go_listen : ((after (.goListen 1 [3, 1]) linked).port 3).state = .listening := by decide +kernel
theorem test_go_probe : (after (.goProbe 1 [3, 2]) (withPort 3 { state := .attached } linked)).stationTx[3] = [.probe] := by
  decide +kernel
theorem test_go_ready : ((after (.goReady 1 [3, 3]) (withPort 3 { state := .probed } linked)).port 3).state = .ready := by
  decide +kernel
theorem test_go_pause : ((after (.goPause 1 [3, 4]) (withPort 3 { state := .ready } linked)).port 3).timer = some 500 := by
  decide +kernel
theorem test_go_resume : ((after (.goResume 1 [3, 5]) (withPort 3 { state := .paused } linked)).port 3).timer = some 100 := by
  decide +kernel
theorem test_go_listen_to_ready : ((after (.goListenToReady 1 [3, 6]) linked).port 3).compound = true := by decide +kernel
theorem test_go_detach : ((after (.goDetach 1 [3, 0]) (withPort 3 { state := .fault, faultCause := some .noResume } linked)).port
    3).state = .detached := by decide +kernel
theorem test_go_detach_keeps_the_frame_being_sent :
    (after (.goDetach 1 [3, 0]) (withPort 3 { state := .ready } { linked with stationTx := Vector.replicate 8 [.hold, .pause] })
      ).stationTx[3] = [.hold] := by decide +kernel
theorem test_first_frame_attaches : ((after (.obsTag 3 5 true false) (withPort 3 { state := .listening } linked)).port 3).inbound
    = [] ∧ ((after (.idle 3) (withPort 3 { state := .listening } linked)).port 3).state = .attached := by decide +kernel
theorem test_obs_defect_joins : ((after (.obsDefect 3 5 17 1 2) (withPort 3 { state := .ready } linked)).port 3).inbound
    = [{ tray := 5, body := .defect 17 1 2 }] := by decide +kernel
/-- A record of a PAUSING port that has sent its ITEM_DONE is merged (R12, R135); one of a lost and withdrawn port is not. -/
theorem test_record_after_item_done_is_merged :
    let held := fun (c : Context) =>
      withPort 1 { state := .pausing, detectedClass := .vision, inbound := [⟨341, .defect 17 1 2⟩] } (withContext 0 c linked)
    let merged := fun (s : State) => ((after (.takeDefectRecord 1) s).context 0).observations ≠ []
    merged (held { knitContext with reported := 0x02 }) ∧
    merged (after (.linkDown (.station 1)) (held { knitContext with reported := 0x02 })) ∧
    ¬ merged (after (.linkDown (.station 1)) (held knitContext)) := by decide +kernel
theorem test_hold_at_the_threshold :
    (after (.obsWeight 3 5 9) (withPort 3 { state := .ready, inbound := List.replicate 11 { tray := 5, body := .itemDone } }
      linked)).stationTx[3] = [.hold] := by decide +kernel
theorem test_item_done_overruns :
    ((after (.itemDone 1 341) (withPort 1 { state := .ready, inbound := List.replicate 16 { tray := 5, body := .itemDone } }
      (withContext 0 knitContext linked))).context 0).lost = 0x02 := by decide +kernel
theorem test_announce_of_another_class : ((after (.announce 3 1 1) (withPort 3 { state := .probing, timer := some 5 } linked)).port
    3).faultCause = some .classMismatch := by decide +kernel
theorem test_announce_unknown_capability_is_basic :
    ((after (.announce 3 0 2) (withPort 3 { state := .probing, timer := some 5, capability := .extended } linked)).port
    3).capability = .basic := by decide +kernel
theorem test_pause_timer_with_time_left :
    (after (.pauseTimeout 3) (withPort 3 { state := .pausing, timer := some 1 } linked)).port 3
      = { state := .pausing, timer := some 1 } := by decide +kernel
theorem test_empty_queue_takes_a_timer_that_has_run_out :
    ((stepped (stepped (withPort 3 { state := .probing, timer := some 1 } linked))).port 3).state = .probed := by decide +kernel
theorem test_pause_ack : ((after (.pauseAck 3) (withPort 3 { state := .pausing, timer := some 5 } linked)).port 3).state
    = .paused := by decide +kernel
theorem test_resume_ack : ((after (.resumeAck 3) (withPort 3 { state := .resuming, timer := some 5 } linked)).port 3).timer
    = none := by decide +kernel
theorem test_probe_window_expiry_runs_the_compound :
    ((after (.probeWindowExpiry 3) (withPort 3 { state := .probing, timer := some 0, compound := true } linked)).port 3).state
    = .ready := by decide +kernel
theorem test_pause_timeout_withdraws :
    ((after (.pauseTimeout 5) (withPort 5 { state := .pausing, timer := some 0 }
      (withContext 0 { knitContext with reported := 0x07 } linked))).context 0).expected = 0x07 := by decide +kernel
theorem test_resume_timeout : ((after (.resumeTimeout 3) (withPort 3 { state := .resuming, timer := some 0 } linked)).port
    3).faultCause = some .noResume := by decide +kernel

/-! ### Chutes and totes -/

theorem test_chain_load :
    ((after (.chainLoad 1 [6, 2, 0, 9, 20, 0x27, 0x10, 1, 0, 10, 20, 0x27, 0x10, 0]) linked).chute 6)
      = { state := .swapping, pending := some 0, chain := [1] } := by decide +kernel
theorem test_chain_load_links :
    ((after (.chainLoad 1 [6, 1, 0, 9, 20, 0x27, 0x10, 1]) (withTote 6 3 smallTote linked)).descriptor 3).next = some 0 := by
  decide +kernel
theorem test_chain_clear :
    ((after (.chainClear 1 [6]) (withTote 6 3 smallTote linked)).descriptor 3).state = .free := by decide +kernel
theorem test_enable : ((after (.enable 1 [6, 0]) (linked.modChute 6 (fun c => { c with disabled := true }))).chute 6).disabled
    = false := by decide +kernel
theorem test_disable : ((after (.disable 1 [6, 1]) linked).chute 6).disabled = true := by decide +kernel
theorem test_close_now_waits_for_the_order : ((after (.closeNow 1 [6, 2]) orderedState).chute 6).pendingCause = some .forced := by
  decide +kernel
theorem test_advance : ((after (.advance 1 [6, 3])
    (linked.modChute 6 (fun c => { c with state := .exhausted, chain := [4, 5] }))).chute 6).pending = some 4 := by decide +kernel
theorem test_tote_full_closes :
    (after (.toteFull 6) (withTote 6 3 { smallTote with committedItems := 7, committedGrams := 900 } linked)).outbound.head?
      = some (.tote ⟨6, 0x1234, 7, 900, 13, 0, .fullSignal⟩) := by decide +kernel
theorem test_tote_in_place :
    ((after (.toteInPlace 6 0x77) ((linked.modDescriptor 4 (fun _ => { state := .queued, capacity := 9, weightLimit := 100 })).modChute
      6 (fun c => { c with state := .swapping, pending := some 4 }))).chute 6).active = some 4 := by decide +kernel
theorem test_chute_jam : ((after (.chuteJam 6) linked).chute 6).jammed = true := by decide +kernel
theorem test_chute_clear : ((after (.chuteClear 6) (linked.modChute 6 (fun c => { c with jammed := true }))).chute 6).jammed
    = false := by decide +kernel

/-! ### Divert decisions -/

theorem test_decision_issues_an_order :
    (after (.decisionReq 341) (withTote 6 3 smallTote (withContext 0 knitGraded linked))).orders = [knitOrder] := by
  decide +kernel
theorem test_decision_recirculates :
    (after (.decisionReq 341) (withContext 0 knitGraded linked)).sorterTx = [.recircOrder 341] := by decide +kernel
theorem test_divert_done_commits : ((after (.divertDone 341 6) orderedState).descriptor 3).committedGrams = 468 := by
  decide +kernel
theorem test_divert_done_elsewhere_is_a_stray :
    ((after (.divertDone 341 7) (withTote 7 4 smallTote orderedState)).descriptor 4).strays = 1 := by decide +kernel
theorem test_divert_missed_counts_a_lap : ((after (.divertMissed 341 6) orderedState).context 0).laps = 1 := by decide +kernel
theorem test_order_expiry_releases :
    ((after (.orderExpiry 341 6) { orderedState with orders := [{ knitOrder with remaining := 0 }] }).descriptor 3).reservedItems
      = 0 := by decide +kernel
theorem test_order_with_time_left_does_not_expire : (after (.orderExpiry 341 6) orderedState).orders = [knitOrder] := by
  decide +kernel
theorem test_no_request_is_taken_while_the_sorter_link_is_down :
    (after (.decisionReq 341) { withContext 0 knitSealed linked with sorterLink := .down }).context 0 = knitSealed := by
  decide +kernel
/-! ### Management -/

/-- The CONFIGURE of 10.6 and its payload. -/
theorem test_configure_clamps :
    (after (.configure 10 [9, 31, 0, 0x02, 0x58, 2, 2, 9, 1]) linked).outbound
      = [.mgmt { tag := 10, code := 0x01, result := .ok, payload := [7, 31, 1, 0x02, 0x58, 4, 2, 4, 1] }] := by decide +kernel
theorem test_abandon_ordered_tray : ((after (.abandonTray 1 [0x01, 0x55]) orderedState).context 0).state = .free ∧
    (after (.abandonTray 1 [0x01, 0x55]) orderedState).orders = [] := by decide +kernel
theorem test_abandon_marks_a_grading :
    ((after (.abandonTray 1 [0x01, 0x55]) (withContext 0 { knitSealed with state := .grading } linked)).context 0).abandonMark
      = true := by decide +kernel
theorem test_read_context_not_found : (after (.readContext 1 [0x01, 0x55, 0]) linked).outbound
    = [.mgmt { tag := 1, code := 0x0D, result := .notFound, payload := [] }] := by decide +kernel
theorem test_read_chute : (after (.readChute 1 [6]) linked).outbound = [.mgmt ⟨1, 0x0E, .ok,
    [6, 0, 0, 0, 255, 255, 255, 0, 0, 0, 0, 0, 0, 0, 0, 0, 0, 0, 0, 0, 0, 0, 0, 0]⟩] := by decide +kernel
theorem test_read_table : (after (.readTable 1 [4, 6, 0]) linked).outbound = [.mgmt ⟨1, 0x0F, .ok,
    [4, 6, 0, 5, 31, 1, 1]⟩] := by decide +kernel
theorem test_read_status_counts_free : linked.statusBytes.take 2 = [1, 0] := by decide +kernel
theorem test_event_route : (after (.eventRoute 1 [12, 2]) linked).route .chuteEvent = .frameAndAttention := by decide +kernel
theorem test_ack_attention : (after (.ackAttention 1 []) { linked with attention := true }).attnDrivenLow = false := by
  decide +kernel
theorem test_soft_reset_keeps_the_frame_being_sent :
    (after (.softReset 1 []) { linked with stationTx := Vector.replicate 8 [.pause, .hold] }).stationTx[3] = [.pause] := by
  decide +kernel
theorem test_soft_reset_keeps_locked_settings :
    (after (.softReset 1 []) { linked with settings := { lapLimit := 7, lock := true } }).settings.lapLimit = 7 := by
  decide +kernel
theorem test_bad_command : (after (.badCommand 1 0x14 []) linked).outbound
    = [.mgmt { tag := 1, code := 0x14, result := .badCommand, payload := [] }] := by decide +kernel

/-! ### Frames and links -/

theorem test_frame_rejected : (after (.frameRejected .sorter [0x30, 0x00, 0x01, 0x56, 0xA1, 0x2A]) linked).outbound
    = [.event (.frameRejected .sorter .check 0x30) 0] := by decide +kernel
theorem test_entry_sent_admits_the_waiting_item :
    ((after .entrySent { linked.modContext 9 (fun _ => { knitGraded with state := .reporting, stamp := some 0 }) with
      outbound := fullQueue, stampCounter := 1 }).context 9).state = .free := by decide +kernel
theorem test_port_frame_sent : (after (.portFrameSent .sorter) { linked with sorterTx := [.recircOrder 5, .recircOrder 6] }).sorterTx
    = [.recircOrder 6] := by decide +kernel
theorem test_link_up : (after (.linkUp (.station 3)) State.reset).link (.station 3) = .up := by decide +kernel
theorem test_link_down_loses_the_station : ((after (.linkDown (.station 3)) (withPort 3 { state := .ready } linked)).port 3).state
    = .listening := by decide +kernel
theorem test_power_on_reset : (after .powerOnReset { linked with dropped := 9 }).dropped = 0 := by decide +kernel

/-! ### Witnesses: states and operands that meet the hypotheses of the statements, clause by clause -/

/-- A state with n frames in the outbound queue. -/
def queueOf (n : Nat) : State := { linked with outbound := List.replicate n (.event (.inductRefused 5 .noTray) 0) }

/-- A state whose routes are all r, with n frames in the outbound queue. -/
def routed (r : Route) (n : Nat) : State := { queueOf n with routes := Vector.replicate 12 r }

/-- A command that waits in its execution phase. -/
def waitingDefault : Command := { tag := 1, code := 0x08, params := [6, 1, 12, 3, 1], phase := .execution }

/-- A state whose port p holds one record of tray 341, of the class and capability given. -/
def heldAt (p : StationPort) (k : StationClass) (b : RecordBody) (s : State) : State :=
  withPort p { state := .ready, detectedClass := k, inbound := [{ tray := 341, body := b }] } s

theorem witness_StepRunsFrontCommand : ({ linked with pending := [.entrySent] } : State).pending = .entrySent :: [] := rfl
theorem witness_EmptyQueuePassesOneMillisecond :
    linked.pending = [] ∧ (∀ p, (linked.port p).timer ≠ some 0) ∧ linked.orders = [] ∧
    (let s := withPort 3 { state := .pausing, timer := some 0 } linked;
      s.pending = [] ∧ (s.port 3).timer = some 0 ∧ (s.port 3).state = .pausing ∧ ∀ q, q < 3 → (s.port q).timer ≠ some 0) ∧
    (let o := { knitOrder with remaining := 0 };
      let s : State := { orderedState with orders := [o] };
      s.pending = [] ∧ (∀ p, (s.port p).timer ≠ some 0) ∧ s.orders = [] ++ o :: [] ∧ o.remaining = 0) := by decide +kernel
theorem witness_OfferedEventIsRoutedAndCounted :
    (routed .off 0).route .chuteEvent = .off ∧
    ((routed .frame 56).route .chuteEvent = .frame ∧ (routed .frame 56).outbound.length ≤ 56) ∧
    ((routed .frame 57).route .chuteEvent = .frame ∧ 56 < (routed .frame 57).outbound.length) ∧
    ((routed .frameAndAttention 56).route .chuteEvent = .frameAndAttention ∧
      (routed .frameAndAttention 56).outbound.length ≤ 56) ∧
    ((routed .frameAndAttention 57).route .chuteEvent = .frameAndAttention ∧
      56 < (routed .frameAndAttention 57).outbound.length) := by decide +kernel
theorem witness_ManagementResultAndBusyAnswer :
    (queueOf 63).outbound.length < 64 ∧ 64 ≤ (queueOf 64).outbound.length ∧
    managementOf (.readStatus 1 []) = some (1, 0x10, []) ∧
    ({ queueOf 56 with command := some waitingDefault } : State).command ≠ none ∧ (queueOf 56).outbound.length ≤ 56 ∧
    56 < (queueOf 57).outbound.length := by decide +kernel
theorem witness_MalformedCommandIsRefused :
    linked.command = none ∧
    (([0, 0, 0, 0, 0, 0, 0, 0] : List Byte).length ≠ 9 ∧ 31 < numAt [3, 32, 4, 2, 88, 12, 2, 2, 0] 1 ∧
      1 < numAt [3, 31, 4, 2, 88, 12, 2, 2, 2] 8) ∧
    (7 < numAt [8, 0] 0 ∧ 3 < numAt [7, 4] 1 ∧ ([0] : List Byte).length ≠ 2) ∧ 6 < numAt [0, 7] 1 ∧
    (31 < numAt [32, 0] 0 ∧ 3 < numAt [0, 4] 1 ∧ 31 < numAt [32] 0) ∧
    (1023 < wordAt [4, 0] 0 ∧ 2 < numAt [3, 255, 3] 2 ∧ ([0, 0] : List Byte).length ≠ 3) ∧
    (numAt [0, 1] 0 = 0 ∧ 12 < numAt [13, 1] 0 ∧ 2 < numAt [12, 3] 1) ∧ ([0] : List Byte) ≠ [] := by decide
/-- CHAIN_LOADs at and past the bounds of R106: capacity 60, weight limits 100 and 30,000; then chute 32, capacity 61, weight
limit 99, flag 2, and a count of 2 with one entry. -/
theorem witness_ChainLoadFits :
    ChainLoadFits [31, 2, 0, 9, 60, 0, 100, 1, 0, 9, 1, 0x75, 0x30, 0] ∧
    ¬ ChainLoadFits [32, 1, 0, 9, 60, 0, 100, 1] ∧ ¬ ChainLoadFits [31, 1, 0, 9, 61, 0, 100, 1] ∧
    ¬ ChainLoadFits [31, 1, 0, 9, 60, 0, 99, 1] ∧ ¬ ChainLoadFits [31, 1, 0, 9, 60, 0, 100, 2] ∧
    ¬ ChainLoadFits [31, 2, 0, 9, 60, 0, 100, 1] := by
  unfold ChainLoadFits
  and_intros <;> decide
theorem witness_ClosedContextIsReported : (queueOf 63).outbound.length < 64 ∧ 64 ≤ (queueOf 64).outbound.length := by
  decide
theorem witness_WithdrawalSealsCompletedContexts :
    (let c := (withContext 0 { knitContext with reported := 0x07 } linked).context 0;
      c.state = .opened ∧ portIn 5 c.expected = true ∧ portIn 5 c.reported = false ∧
        ∀ q : StationPort, q ≠ 5 → portIn q c.expected = true → portIn q c.reported = true) ∧
    (let c := (withContext 0 knitContext linked).context 0;
      c.state = .opened ∧ portIn 5 c.expected = true ∧ portIn 5 c.reported = false ∧
        portIn 0 c.expected = true ∧ portIn 0 c.reported = false) ∧
    (linked.context 0).state ≠ .opened ∧ linked.gradingQueue = [] ∧ linked.inFlight = none ∧
    ({ linked with gradingQueue := [7] } : State).gradingQueue ≠ [] := by decide +kernel
theorem witness_InductOpensLowestFreeSlot :
    (341 : Tray).val ≠ 1023 ∧ (withContext 0 { knitContext with tray := 5 } linked).lookup 341 = none ∧
    (withContext 0 { knitContext with tray := 5 } linked).lowestFree 1 :=
  ⟨by decide, by decide +kernel, by decide +kernel, by decide +kernel⟩
theorem witness_InductReplacesEarlierContext :
    (withContext 0 knitContext linked).lookup 341 = some 0 ∧
    ((withContext 0 knitContext linked).context 0).state = .opened ∧ (withContext 0 knitContext linked).lowestFree 1 :=
  ⟨by decide +kernel, by decide +kernel, by decide +kernel, by decide +kernel⟩
theorem witness_InductIsRefused :
    noTray.val = 1023 ∧
    (let s := withContext 0 { knitContext with state := .grading } linked;
      s.lookup 341 = some 0 ∧ (s.context 0).state = .grading) ∧
    (let s : State := { linked with contexts := Vector.replicate 256 knitGraded };
      s.lookup 341 = none ∧ ∀ i, (s.context i).state ≠ .free) := by decide +kernel
theorem witness_TakenRecordIsDiscarded :
    (let s := heldAt 2 .scale .itemDone linked;
      (s.port 2).inbound = [⟨341, .itemDone⟩] ∧ s.lookup 341 = none) ∧
    (let s := heldAt 2 .scale .itemDone (withContext 0 knitGraded linked);
      (s.port 2).inbound = [⟨341, .itemDone⟩] ∧ s.lookup 341 = some 0 ∧ (s.context 0).state ≠ .opened) ∧
    (let s := heldAt 3 .vision .itemDone (withContext 0 knitContext linked);
      (s.port 3).inbound = [⟨341, .itemDone⟩] ∧ s.lookup 341 = some 0 ∧ (s.context 0).state = .opened ∧
        portIn 3 (s.context 0).expected = false) ∧
    (let s := heldAt 2 .scale (.tag true false) (withContext 0 knitContext linked);
      (s.port 2).inbound = [⟨341, .tag true false⟩] ∧ s.lookup 341 = some 0 ∧ (s.context 0).state = .opened ∧
        portIn 2 (s.context 0).expected = true ∧ (s.port 2).detectedClass = .scale) := by decide +kernel
theorem witness_DefectRecordIsPricedAndMerged :
    (let s := heldAt 1 .vision (.defect 17 1 2) (withContext 0 { knitContext with observations := fullList } linked);
      (s.port 1).inbound = [⟨341, .defect 17 1 2⟩] ∧ s.lookup 341 = some 0 ∧ (s.context 0).state = .opened ∧
      portIn 1 (s.context 0).expected = true ∧ (s.port 1).detectedClass ≠ .scale ∧ (s.port 1).capability = .basic ∧
      s.profiles[(s.context 0).category].valid = false ∧
      (s.context 0).observations = fullList.take 3 ++ ⟨17, 0, 1, 12, true⟩ :: fullList.drop 4 ∧
      (∀ x ∈ fullList.take 3 ++ fullList.drop 4, x.code ≠ 17)) ∧
    ((∀ x ∈ knitContext.observations, x.code ≠ 17) ∧ knitContext.observations.length < 12) ∧
    ((∀ x ∈ fullList, x.code ≠ 99) ∧ 12 ≤ fullList.length ∧
      fullList = fullList.take 4 ++ ⟨22, 0, 1, 10, false⟩ :: fullList.drop 5 ∧
      (∀ y ∈ fullList.take 4, 10 ≤ y.points) ∧ (∀ y ∈ fullList.drop 5, 10 < y.points)) := by decide +kernel
theorem witness_TagAndWeightRecordsMerge :
    (let s := heldAt 2 .scale (.weight 540) (withContext 0 { knitContext with measured := some 468 } linked);
      (s.port 2).inbound = [⟨341, .weight 540⟩] ∧ s.lookup 341 = some 0 ∧ (s.context 0).state = .opened ∧
      portIn 2 (s.context 0).expected = true ∧ (s.port 2).detectedClass = .scale ∧
      (s.context 0).measured = some 468 ∧ (s.context 0).catalogue ≠ 0 ∧
      ((468 : Int) - (s.context 0).catalogue).natAbs < ((540 : Int) - (s.context 0).catalogue).natAbs) ∧
    knitContext.measured = none ∧ ((532 : Int) - knitContext.catalogue).natAbs ≤ ((468 : Int) - knitContext.catalogue).natAbs ∧
    (let s := heldAt 0 .label (.tag false true) (withContext 0 knitContext linked);
      (s.port 0).inbound = [⟨341, .tag false true⟩] ∧ s.lookup 341 = some 0 ∧ (s.context 0).state = .opened ∧
      portIn 0 (s.context 0).expected = true ∧ (s.port 0).detectedClass = .label) := by decide +kernel
theorem witness_ItemDoneRecordReportsAndSeals :
    (let s := heldAt 5 .bench .itemDone (withContext 0 { knitContext with reported := 0x07 } linked);
      (s.port 5).inbound = [⟨341, .itemDone⟩] ∧ s.lookup 341 = some 0 ∧ (s.context 0).state = .opened ∧
      portIn 5 (s.context 0).expected = true ∧
      ∀ q, portIn q (s.context 0).expected = true → q = 5 ∨ portIn q (s.context 0).reported = true) ∧
    (portIn 0 knitContext.expected = true ∧ portIn 0 (portInsert 5 knitContext.reported) = false) := by decide +kernel
theorem witness_GradingAndWaitingWriteAreTaken :
    linked.inFlight = none ∧ ({ linked with gradingQueue := [7] } : State).gradingQueue = 7 :: [] ∧
    linked.gradingQueue = [] ∧
    ({ linked with command := some waitingDefault } : State).command = some waitingDefault ∧
    parseTableChange 0x08 [6, 1, 12, 3, 1] = some (.target .m ⟨.outlet, 12, 3, .fill⟩) ∧
    managementOf (.writeDefault 1 [6, 1, 12, 3, 1]) = some (1, 0x08, [6, 1, 12, 3, 1]) := by decide +kernel
theorem witness_TableWriteFits : TableWriteFits 0x08 [6, 1, 12, 3, 1] ∧ ¬ TableWriteFits 0x08 [7, 1, 12, 3, 1] := by
  rw [← parseTableChange_isSome, ← parseTableChange_isSome]
  decide +kernel
theorem witness_GradingCompletionWritesOrAbandons :
    (let s : State := { withContext 0 { knitSealed with state := .grading } linked with
        inFlight := some { context := 0, classes := knitClasses } };
      s.inFlight = some { context := 0, classes := knitClasses } ∧ (s.context 0).abandonMark = false ∧ s.waitingWrite = none ∧
      ({ s with command := some waitingDefault } : State).waitingWrite
        = some (waitingDefault, .target .m ⟨.outlet, 12, 3, .fill⟩) ∧ s.gradingQueue = [] ∧
      ({ s with gradingQueue := [7] } : State).gradingQueue ≠ []) ∧
    (let s : State := { withContext 0 { knitSealed with state := .grading, abandonMark := true } linked with
        inFlight := some { context := 0, classes := knitClasses }
        command := some { tag := 1, code := 0x0C, params := [0x01, 0x55], phase := .execution } };
      (s.context 0).abandonMark = true ∧ s.inFlight.isSome) := by decide +kernel
theorem witness_ScorePartsFollowTheStages :
    (4095 : Nat) ≤ 4095 ∧ knitContext.measured = none ∧
    (knitSealed.measured = some 468 ∧ 0 < knitSealed.catalogue ∧
      6 * knitSealed.catalogue ≤ ((468 : Int) - knitSealed.catalogue).natAbs * 100 ∧
      ((468 : Int) - knitSealed.catalogue).natAbs * 100 < (6 + 1) * knitSealed.catalogue ∧ 6 ≤ knitProfile.tolerance) ∧
    (let c := { knitSealed with measured := some 464 };
      7 * c.catalogue ≤ ((464 : Int) - c.catalogue).natAbs * 100 ∧
      ((464 : Int) - c.catalogue).natAbs * 100 < (7 + 1) * c.catalogue ∧ knitProfile.tolerance < 7) ∧
    knitProfile.tolerance ≤ 25 ∧ (1023 : Fin 1024).val = 1023 ∧ (30 : Fin 1024).val ≤ knitProfile.allowance ∧
    (knitSealed.days.val ≠ 1023 ∧ knitProfile.allowance + 10 * 1 < knitSealed.days.val ∧
      knitSealed.days.val ≤ knitProfile.allowance + 10 * (1 + 1)) := by decide
theorem witness_GradeFollowsCausesAndTotal :
    ({ noProfile := true } : Causes) ≠ {} ∧ 40 ≤ knitProfile.tA ∧ (knitProfile.tA < 41 ∧ 120 ≤ knitProfile.tB) ∧
    (knitProfile.tB < 121 ∧ 300 ≤ knitProfile.tC) ∧ (knitProfile.tC < 301 ∧ 700 ≤ knitProfile.tD) ∧
    knitProfile.tD < 701 := by decide
theorem witness_MatcherSuppliesTargetAndCandidates :
    (let w0 : Window := { enabled := true, lo := 0, hi := 10 };
      let w1 : Window := { enabled := true, lo := 11, hi := 15 };
      ¬ WindowMatches w0 knitContext ∧ WindowMatches w1 knitContext) ∧
    ¬ WindowMatches {} knitContext ∧ TargetSound rangeTarget ∧ rangeTarget.spread = .fill ∧
    TargetSound { first := 24, width := 8, spread := .size } := by
  unfold WindowMatches TargetSound
  decide
theorem witness_WriteWeightsWritesItsRun :
    linked.command = none ∧ linked.inFlight = none ∧ (3 : Byte).toNat = (3 : Fin 16).val ∧ 1 ≤ (2 : Byte).toNat ∧
    (2 : Byte).toNat ≤ 32 ∧ (126 : Byte).toNat + (2 : Byte).toNat ≤ 128 ∧ ([9, 200] : List Byte).length = (2 : Byte).toNat := by
  decide
theorem witness_ProfilesReasonsAndTargetsAreWritten :
    linked.command = none ∧ linked.inFlight = none ∧ (63 : Byte).toNat = (63 : Fin 64).val ∧
    (List.replicate 18 (0 : Byte)).length = 18 ∧
    ((15 : Byte).toNat = (15 : Fin 16).val ∧ (1 : Byte).toNat = true.toNat ∧ (15 : Byte).toNat < 16 ∧
      ((0 : Byte) ++ (40 : Byte)).toNat ≤ ((0 : Byte) ++ (40 : Byte)).toNat ∧
      ((15 : Byte) ++ (255 : Byte)).toNat ≤ 4095 ∧ (25 : Byte).toNat ≤ 25 ∧ ((1 : Byte) ++ (109 : Byte)).toNat ≤ 365 ∧
      (50 : Byte).toNat ≤ 50 ∧ ((3 : Byte) ++ (232 : Byte)).toNat ≤ 1000) ∧
    (6 : Byte).toNat = Grade.m.index.val + 1 ∧ (List.replicate 16 (0 : Byte)).length = 16 ∧ (7 : Byte).toNat = (7 : Fin 8).val ∧
    (List.replicate 10 (0 : Byte)).length = 10 ∧
    ((5 : Byte).toNat = DispositionClass.manual.code ∧ (24 : Byte).toNat = (24 : Chute).val ∧ (1 : Byte).toNat = Spread.fill.code ∧
      1 ≤ (8 : Byte).toNat ∧ (8 : Byte).toNat ≤ 8 ∧ (24 : Byte).toNat + (8 : Byte).toNat ≤ 32) ∧
    ((0 : Byte) ≠ (255 : Byte) ∧ (15 : Byte).toNat = (15 : Fin 16).val ∧ (15 : Fin 16) ≤ 15 ∧ (1 : Byte) ≠ 0 ∧
      ((0 : Byte) ++ (1 : Byte)).toNat ≠ 0) := by decide
theorem witness_TableWriteIsRefusedOrWaits :
    linked.command = none ∧ ({ linked with inFlight := some { context := 0, classes := knitClasses } } : State).inFlight ≠ none ∧
    (WeightsFit [15, 126, 2, 0, 0, 0, 2, 9, 200] ∧ ¬ WeightsFit [15, 127, 2, 0, 0, 0, 2, 9, 200] ∧
      ¬ WeightsFit [16, 126, 2, 0, 0, 0, 2, 9, 200] ∧ ¬ WeightsFit [15, 126, 2, 0, 0, 0, 2, 9]) ∧
    (ProfileFits [63, 0] ∧ ProfileFits [12, 1, 3, 3, 0, 40, 0, 120, 1, 44, 2, 188, 25, 1, 109, 50, 3, 232, 1, 255] ∧
      ¬ ProfileFits [12, 1, 3, 3, 0, 121, 0, 120, 1, 44, 2, 188, 6, 0, 30, 5, 1, 44, 1, 60] ∧ ¬ ProfileFits [63, 1]) ∧
    (List.replicate 16 (0 : Byte)).length = 16 ∧ (List.replicate 15 (0 : Byte)).length ≠ 16 ∧
    (WindowFits [6, 7, 0] ∧ WindowFits [2, 0, 1, 255, 1, 15, 15, 0, 1, 5, 24, 8, 1] ∧
      ¬ WindowFits [2, 0, 1, 64, 1, 15, 15, 0, 1, 5, 24, 8, 1] ∧ ¬ WindowFits [2, 0, 1, 255, 1, 15, 14, 0, 1, 5, 24, 8, 1] ∧
      ¬ WindowFits [0, 7, 0]) ∧
    (DefaultFits [6, 5, 24, 8, 1] ∧ ¬ DefaultFits [7, 1, 12, 3, 1] ∧ ¬ DefaultFits [6, 5, 25, 8, 1]) := by
  unfold WeightsFit ProfileFits WindowFits DefaultFits TargetFits
  and_intros <;> decide
theorem witness_PortConfigWritesExpectedClass :
    linked.command = none ∧ (7 : Byte).toNat = (7 : StationPort).val ∧ (3 : Byte).toNat = StationClass.bench.code ∧
    (linked.port 7).state = .detached ∧ ((withPort 7 { state := .ready } linked).port 7).state ≠ .detached := by decide +kernel
theorem witness_GoTargetTakesItsFirstStepOrIsRefused :
    linked.command = none ∧ (7 : Byte).toNat = (7 : StationPort).val ∧
    ((linked.port 7).compound = false ∧ (linked.port 7).state = .detached) ∧
    ((withPort 7 { state := .probed } linked).port 7).state = .probed ∧
    ((withPort 7 { state := .ready } linked).port 7).state = .ready ∧
    ((withPort 7 { state := .paused } linked).port 7).state = .paused ∧
    ((withPort 7 { state := .listening } linked).port 7).state = .listening ∧
    ((withPort 7 { state := .attached } linked).port 7).state = .attached := by decide +kernel
theorem witness_GoDetachTakesAnyPortToDetached :
    linked.command = none ∧ (7 : Byte).toNat = (7 : StationPort).val ∧
    ((withPort 7 { state := .pausing, timer := some 3 } linked).port 7).state = .pausing ∧
    ((withPort 7 { state := .probing, timer := some 3, compound := true } linked).port 7).compound = true ∧
    (linked.port 7).state = .detached := by decide +kernel
theorem witness_StationFrameIsTakenByPortState :
    stationOf (.idle 3) = some 3 ∧ (linked.port 3).state = .detached ∧
    (let s := withPort 3 { state := .listening } linked;
      (s.port 3).state = .listening ∧ (s.port 3).compound = false) ∧
    (let s := withPort 3 { state := .listening, compound := true } linked;
      (s.port 3).state = .listening ∧ (s.port 3).compound = true) ∧
    (let s := withPort 3 { state := .ready } linked;
      (s.port 3).state ≠ .listening ∧ (s.port 3).state ≠ .probing ∧ (s.port 3).state ≠ .pausing ∧
        (s.port 3).state ≠ .resuming) ∧
    stationOf (.announce 3 1 1) = some 3 ∧ stationOf (.pauseAck 3) = some 3 ∧ stationOf (.resumeAck 3) = some 3 := by
  decide +kernel
theorem witness_ObservationJoinsOrOverruns :
    queuedOf (.itemDone 1 341) = some (1, ⟨341, .itemDone⟩) ∧
    (let s := withPort 1 { state := .ready, inbound := List.replicate 11 ⟨5, .itemDone⟩ } linked;
      (s.port 1).state ≠ .detached ∧ (s.port 1).state ≠ .listening ∧ (s.port 1).inbound.length < 16 ∧
      (s.port 1).hold = false ∧ s.settings.holdThreshold ≤ (s.port 1).inbound.length + 1) ∧
    (let s := withPort 1 { state := .ready, inbound := List.replicate 10 ⟨5, .itemDone⟩ } linked;
      (s.port 1).inbound.length + 1 < s.settings.holdThreshold) ∧
    (let s := withPort 1 { state := .ready, inbound := List.replicate 16 ⟨5, .itemDone⟩ } (withContext 0 knitContext linked);
      16 ≤ (s.port 1).inbound.length ∧ s.lookup 341 = some 0 ∧ (s.context 0).state = .opened ∧
      portIn 1 (s.context 0).expected = true) ∧
    linked.lookup 341 = none := by decide +kernel
theorem witness_StationAnswersAndTimeouts :
    (let s := withPort 3 { state := .probing, timer := some 0, expectedClass := .vision } linked;
      (s.port 3).state = .probing ∧ (1 : Byte).toNat = (s.port 3).expectedClass.code ∧
      (0 : Byte).toNat ≠ (s.port 3).expectedClass.code ∧ (4 : Byte).toNat ≠ (s.port 3).expectedClass.code ∧
      (s.port 3).timer = some 0) ∧
    (2 : Byte) ≠ 1 ∧
    (let s := withPort 3 { state := .pausing, timer := some 0 } linked;
      (s.port 3).state = .pausing ∧ (s.port 3).timer = some 0) ∧
    (let s := withPort 3 { state := .resuming, timer := some 0 } linked;
      (s.port 3).state = .resuming ∧ (s.port 3).timer = some 0) ∧
    ((withPort 3 { state := .pausing, timer := some 1 } linked).port 3).timer ≠ some 0 := by decide +kernel
theorem witness_ClosedToteHandsOverTheChute :
    ((withTote 6 3 smallTote linked).chute 6).active = some 3 ∧
    (let s := (withTote 6 3 { smallTote with continueFlag := true } linked).modChute 6 (fun c => { c with chain := [4] });
      (s.chute 6).active = some 3 ∧ (s.descriptor 3).continueFlag = true ∧ (s.chute 6).chain = 4 :: []) ∧
    ((withTote 6 3 smallTote linked).descriptor 3).continueFlag = false := by decide +kernel
theorem witness_SettledOrderIsReleasedOrCommitted :
    (orderedState.chute knitOrder.chute).state ≠ .closing ∧
    (orderedState.chute knitOrder.chute).state = .opened ∧
    (orderedState.descriptor 3).committedItems + 1 ≠ (orderedState.descriptor 3).capacity ∧
    (let s := orderedState.modChute 6 (fun c => { c with state := .closing, pendingCause := some .forced });
      (s.chute 6).state = .closing ∧ (s.chute 6).pendingCause = some .forced ∧
      (s.orders.erase knitOrder).countP (fun x => x.chute = 6) = 0) ∧
    (let s := orderedState.modDescriptor 3 (fun D => { D with committedItems := 19 });
      (s.descriptor 3).committedItems + 1 = (s.descriptor 3).capacity) := by decide +kernel
theorem witness_ChainLoadAppendsTotes :
    linked.command = none ∧
    numAt [6, 1, 0, 9, 20, 0x27, 0x10, 1] 0 = (6 : Chute).val ∧ numAt [6, 1, 0, 9, 20, 0x27, 0x10, 1] 1 = 1 ∧
    ChainLoadFits [6, 1, 0, 9, 20, 0x27, 0x10, 1] ∧
    (linked.chute 6).lastOfSequence = none ∧ 1 ≤ linked.freeDescriptors.length ∧
    (let s : State := { linked with descriptors := Vector.replicate 128 { state := .queued } };
      s.freeDescriptors.length < 1) ∧
    (let s := withTote 6 3 smallTote linked;
      (s.chute 6).lastOfSequence = some 3 ∧ (s.descriptor 3).state ≠ .free ∧ (s.chute 6).state ≠ .unconfigured ∧
        (s.chute 6).state ≠ .exhausted) ∧
    (linked.chute 6).state = .unconfigured := by
  unfold ChainLoadFits
  and_intros <;> decide +kernel
theorem witness_ChainClearFreesTheChain :
    linked.command = none ∧ (31 : Byte).toNat = (31 : Chute).val ∧ orderedState.ordersAt 6 ≠ 0 ∧
    (let s := (withTote 6 3 smallTote linked).modChute 6 (fun c => { c with chain := [4] });
      s.ordersAt 6 = 0 ∧ (s.chute 6).active = some 3 ∧ s.outbound.length < 64 ∧ (s.chute 6).pending ≠ some 3 ∧
      3 ∉ (s.chute 6).chain) ∧
    (linked.chute 6).active = none := by decide +kernel
theorem witness_ChuteFlagsAreWrittenInAnyState :
    linked.command = none ∧ linked.sorterLink = .up ∧ (31 : Byte).toNat = (31 : Chute).val := by decide
theorem witness_CloseIsCalledOnAnOpenChute :
    linked.sorterLink = .up ∧
    (let s := withTote 6 3 smallTote linked;
      (s.chute 6).state = .opened ∧ s.ordersAt 6 = 0) ∧
    ((orderedState.chute 6).state = .opened ∧ orderedState.ordersAt 6 ≠ 0 ∧ orderedState.command = none) ∧
    (linked.chute 6).state ≠ .opened ∧ (6 : Byte).toNat = (6 : Chute).val := by decide +kernel
theorem witness_NextToteIsAdvancedAndPlaced :
    linked.sorterLink = .up ∧
    linked.command = none ∧ (6 : Byte).toNat = (6 : Chute).val ∧
    (let s := linked.modChute 6 (fun c => { c with state := .exhausted, chain := [4, 5] });
      (s.chute 6).state = .exhausted ∧ (s.chute 6).chain = 4 :: [5]) ∧
    (let s := (linked.modDescriptor 4 (fun _ => { state := .queued, toteId := 9 })).modChute 6
        (fun c => { c with state := .swapping, pending := some 4 });
      (s.chute 6).state = .swapping ∧ (s.chute 6).pending = some 4 ∧ (9 : BitVec 16) ≠ 0 ∧
      (s.descriptor 4).toteId = 9 ∧ (s.descriptor 4).toteId ≠ 0 ∧ (s.descriptor 4).toteId ≠ 8) ∧
    (linked.chute 6).state ≠ .swapping ∧ (linked.chute 6).state ≠ .exhausted := by decide +kernel
theorem witness_RequestRecirculatesUngradedContext :
    linked.sorterLink = .up ∧
    (∀ o ∈ linked.orders, o.tray ≠ 341) ∧
    (let s := withContext 0 knitContext linked;
      s.lookup 341 = some 0 ∧ (s.context 0).state = .opened) ∧
    (let s := withContext 0 knitSealed linked;
      s.lookup 341 = some 0 ∧ (s.context 0).state = .queued) := by decide +kernel
theorem witness_RequestOrdersGradedContext :
    (let s := withTote 7 3 { smallTote with weightLimit := 468 } (withContext 0 knitGraded linked);
      s.sorterLink = .up ∧ (∀ o ∈ s.orders, o.tray ≠ 341) ∧ s.lookup 341 = some 0 ∧ (s.context 0).state = .graded ∧
      (s.context 0).target = some ⟨rangeTarget, some 1⟩ ∧ (s.context 0).measured = some 468 ∧
      (s.context 0).laps < s.settings.lapLimit ∧ rangeTarget.candidates (s.context 0).size = [6] ++ 7 :: [8, 9] ∧
      (∀ j ∈ ([6] : List Chute), s.refuses j 468) ∧ s.accepts 7 468 3 ∧
      (∀ j ∈ ([8, 9] : List Chute), s.refuses j 468)) ∧
    (let s := withTote 31 3 smallTote (withContext 0 { knitGraded with laps := 3 } linked);
      s.settings.lapLimit ≤ (s.context 0).laps ∧ s.accepts s.settings.exceptionChute 468 3) ∧
    (let s := withContext 0 { knitGraded with laps := 3 } linked;
      s.settings.lapLimit ≤ (s.context 0).laps ∧ s.refuses s.settings.exceptionChute 468) := by
  refine ⟨?_, ?_, ?_⟩ <;> (try dsimp only [State.refuses, State.accepts]) <;> decide +kernel
theorem witness_RequestSettlesAndAnswersUntrackedTray :
    (let s := withTote 31 3 smallTote linked;
      s.sorterLink = .up ∧ (∀ o ∈ s.orders, o.tray ≠ 341) ∧ s.lookup 341 = none ∧
      s.accepts s.settings.exceptionChute s.settings.defaultWeight 3) ∧
    linked.refuses linked.settings.exceptionChute linked.settings.defaultWeight ∧
    (orderedState.sorterLink = .up ∧ (orderedState.orders.map DivertOrder.tray).Nodup ∧ knitOrder ∈ orderedState.orders ∧
      knitOrder.tray = 341 ∧
      knitOrder.context = some 0 ∧ (orderedState.context 0).state = .ordered) := by
  refine ⟨?_, ?_, ?_⟩ <;> (try dsimp only [State.refuses, State.accepts]) <;> decide +kernel
theorem witness_DivertAsOrderedIsCommitted :
    linked.sorterLink = .up ∧ orderedState.sorterLink = .up ∧
    (orderedState.orders.map DivertOrder.tray).Nodup ∧ knitOrder ∈ orderedState.orders ∧ knitOrder.context = some 0 ∧
    (orderedState.context 0).state = .ordered ∧
    (let o := { knitOrder with context := none };
      o ∈ ({ linked with orders := [o] } : State).orders ∧ o.context = none) := by decide +kernel
theorem witness_DivertElsewhereIsAStray :
    linked.sorterLink = .up ∧ orderedState.sorterLink = .up ∧
    (orderedState.chute 6).active = some 3 ∧ (orderedState.chute 7).active = none ∧
    ((orderedState.orders.map DivertOrder.tray).Nodup ∧ knitOrder ∈ orderedState.orders ∧ (7 : Chute) ≠ knitOrder.chute ∧
      knitOrder.context = some 0 ∧ (orderedState.context 0).state = .ordered) ∧
    ((∀ o ∈ linked.orders, o.tray ≠ 341) ∧ linked.lookup 341 = none) ∧
    (let s := withContext 0 knitSealed linked;
      s.lookup 341 = some 0 ∧ (s.context 0).state = .queued) ∧
    (let s := withContext 0 knitContext linked;
      s.lookup 341 = some 0 ∧ (s.context 0).state = .opened) := by decide +kernel
theorem witness_MissedOrExpiredOrderIsReleased :
    (let o := { knitOrder with remaining := 0 };
      let s : State := { orderedState with orders := [o] };
      s.sorterLink = .up ∧ (s.orders.map DivertOrder.tray).Nodup ∧ o ∈ s.orders ∧ o.remaining = 0 ∧ o.context = some 0 ∧
        (s.context 0).state = .ordered) ∧
    (let o := { knitOrder with context := none, remaining := 0 };
      o ∈ ({ linked with orders := [o] } : State).orders ∧ o.context = none ∧ o.remaining = 0) ∧
    (∀ o ∈ orderedState.orders, o.tray = 341 → o.chute = 6 → o.remaining ≠ 0) := by decide +kernel
theorem witness_UnmatchedMissOnlyOffersItsEvent :
    orderedState.sorterLink = .up ∧ ∀ o ∈ orderedState.orders, o.tray = 341 → o.chute ≠ 7 := by decide +kernel
theorem witness_ConfigureClampsAndWritesAllSettings :
    linked.command = none ∧ 32 ≤ (32 : Byte).toNat ∧ (31 : Byte).toNat = (31 : Chute).val ∧ (1 : Byte).toNat = true.toNat := by
  decide
theorem witness_AbandonTrayActsByContextState :
    linked.command = none ∧ ((0x01 : Byte) ++ (0x55 : Byte)).toNat = (341 : Tray).val ∧ linked.lookup 341 = none ∧
    (let s := withContext 0 knitContext linked;
      s.lookup 341 = some 0 ∧ (s.context 0).state = .opened) ∧
    ((withContext 0 { knitContext with state := .grading } linked).context 0).state = .grading ∧
    (orderedState.command = none ∧ orderedState.lookup 341 = some 0 ∧ (orderedState.context 0).state = .ordered ∧
      knitOrder ∈ orderedState.orders ∧ knitOrder.context = some 0 ∧
      ∀ o ∈ orderedState.orders, o.context = some 0 → o = knitOrder) := by decide +kernel
theorem witness_ReadsReturnSnapshots :
    linked.command = none ∧ ((0x01 : Byte) ++ (0x55 : Byte)).toNat = (341 : Tray).val ∧ (2 : Byte).toNat < 3 ∧
    linked.lookup 341 = none ∧ (withContext 0 knitContext linked).lookup 341 = some 0 ∧
    (31 : Byte).toNat = (31 : Chute).val ∧ (orderedState.chute 6).active = some 3 ∧ (linked.chute 6).active = none ∧
    ((15 : Byte).toNat = (15 : Fin 16).val ∧ (127 : Byte).toNat = (127 : Fin 128).val ∧ (63 : Byte).toNat = (63 : Fin 64).val ∧
      (6 : Byte).toNat = gradeCode (some .m) ∧ (7 : Byte).toNat = (7 : Fin 8).val ∧ 16 ≤ (16 : Byte).toNat ∧
      128 ≤ (128 : Byte).toNat ∧ 64 ≤ (64 : Byte).toNat ∧ (0 : Byte).toNat = 0 ∧ 6 < (7 : Byte).toNat ∧ 8 ≤ (8 : Byte).toNat ∧
      4 < (5 : Byte).toNat) := by decide +kernel
theorem witness_RoutesAndAttentionAreWritten :
    linked.command = none ∧ (12 : Byte).toNat = EventKind.chuteEvent.index.val + 1 ∧
    (2 : Byte).toNat = Route.frameAndAttention.code ∧ 12 < (13 : Byte).toNat ∧ 2 < (3 : Byte).toNat := by decide
theorem witness_SoftResetClearsWorkingState : linked.command = none := rfl
theorem witness_RejectedFrameOffersItsCause :
    (linked.port 3).state = .detached ∧ ((withPort 3 { state := .listening } linked).port 3).state ≠ .detached ∧
    State.reset.sorterLink = .down ∧ linked.sorterLink = .up ∧
    ([0x30, 0x00, 0x01, 0x56, 0xA1] : List Byte).length < 6 ∧ 66 < (List.replicate 67 (0 : Byte)).length ∧
    (let bytes : List Byte := [0x30, 0x00, 0x01, 0x56, 0xA1, 0x2A];
      6 ≤ bytes.length ∧ bytes.length ≤ 66 ∧ ¬ (0xA1 : Byte) ++ (0x2A : Byte) = crc16 (bytes.take 4)) ∧
    (0xA1 : Byte) ++ (0x2B : Byte) = crc16 [0x30, 0x00, 0x01, 0x56] ∧
    InboundKind.decisionReq ∈ Port.sorter.receives ∧ InboundKind.decisionReq.code = 0x30 ∧
    InboundKind.decisionReq.allows 1 = false ∧ (∀ k ∈ Port.line.receives, k.code ≠ 0x30) := by decide +kernel
theorem witness_EntrySentAdmitsOneWaitingRecord :
    (queueOf 64).lineLink = .up ∧ (queueOf 64).outbound = (queueOf 1).outbound ++ (queueOf 63).outbound ∧
    linked.waitingResult = none ∧
    (let w : WaitingTote := { descriptor := 3, record := ⟨6, 9, 1, 2, 3, 0, .count⟩ };
      let s : State := { queueOf 64 with waitingTotes := [w] };
      s.waitingTotes = [] ++ w :: []) ∧
    (let s := (queueOf 64).modContext 9 (fun _ => { knitGraded with state := .reporting, stamp := some 0 });
      s.waitingTotes = [] ∧ (s.context 9).state = .reporting ∧ ∀ j, j ≠ 9 → (s.context j).state ≠ .reporting) ∧
    (∀ i, (linked.context i).state ≠ .reporting) := by decide +kernel
/-- The item result of the first worked case (2.14), which is in its ranges. -/
theorem witness_EntrySentItemRanges : ItemRanges knitGraded.itemResult where
  laps := by decide
  width := by
    rintro ct ⟨⟩
    decide
  score := by decide
  list := by decide
theorem witness_PortsTransmitWhileLinksAreUp :
    linked.link (.station 3) = .up ∧ linked.stationTx[(3 : StationPort)].length < 8 ∧
    State.reset.link (.station 3) = .down ∧ linked.link .sorter = .up ∧ linked.sorterTx.length < 64 ∧
    State.reset.link .sorter = .down ∧ 64 ≤ (List.replicate 64 (SorterFrame.recircOrder 5)).length := by decide +kernel
theorem witness_LostStationFallsBackToListening :
    (linked.port 3).state = .detached ∧ ((withPort 3 { state := .pausing } linked).port 3).state = .pausing ∧
    ((withPort 3 { state := .probing, compound := true } linked).port 3).state = .probing := by decide +kernel
theorem witness_InboundLayouts :
    FrameOf [0x34, 0x03, 0x03, 0xFF, 0x06, 0x12, 0x34, 0xA3, 0x72] 0x34 0x03 0xFF [0x06, 0x12, 0x34] ∧
    (1023 : Tray).val = (0x03 * 256 + 0xFF) % 1024 ∧ (6 : Chute).val = bitsAt [0x06, 0x12, 0x34] 0 4 0 ∧
    FrameOf [0x30, 0x00, 0x01, 0x56, 0xA1, 0x2B] 0x30 0x01 0x56 [] :=
  ⟨⟨0xA3, 0x72, by decide +kernel⟩, by decide, by decide, 0xA1, 0x2B, by decide +kernel⟩
theorem witness_FrameOfCommandDecodesToIt :
    WellFormed (.goDetach 7 [0, 255]) = true ∧ (encodeFrame (.goDetach 7 [0, 255])).isSome ∧
    WellFormed (.toteInPlace 31 0xFFFF) = true ∧ (encodeFrame (.toteInPlace 31 0xFFFF)).isSome := by decide +kernel

/-! ### A state that meets the invariants, with a command in front of its queue -/

/-- The context ORDERED to chute 6, a port that pauses, and a jam of the chute waiting to be taken. -/
def soundState : State :=
  { withPort 2 { state := .pausing, timer := some 5, hold := true, inbound := [⟨341, .itemDone⟩] } orderedState with
    pending := [.chuteJam 6] }

theorem soundState_context (i : ContextIndex) :
    soundState.context i = if 0 = i then { knitGraded with state := .ordered } else {} := by
  have h : soundState.contexts = linked.contexts.set 0 { knitGraded with state := .ordered } := rfl
  simp only [State.context, h, Fin.getElem_fin, Vector.getElem_set]
  simp [linked, State.reset, ← Fin.val_inj]
theorem soundState_lookup (t : Tray) : soundState.lookup t = if 341 = t then some 0 else none := by
  have h : soundState.lookup t = (linked.setMap 341 (some 0)).lookup t := rfl
  rw [h, State.lookup_setMap]
  simp [linked, State.lookup, State.reset]
theorem soundState_chute (k : Chute) :
    soundState.chute k = if 6 = k then { state := .opened, active := some 3 } else {} := by
  have h : soundState.chute k = (linked.modChute 6 (fun c => { c with state := .opened, active := some 3 })).chute k := rfl
  rw [h, State.chute_modChute]
  simp [linked, State.chute, State.reset]
theorem soundState_descriptor (d : DescriptorIndex) :
    soundState.descriptor d =
      if 3 = d then { smallTote with reservedItems := 1, reservedGrams := 468, state := .active } else {} := by
  have h : soundState.descriptor d = (linked.modDescriptor 3 (fun _ =>
    { smallTote with reservedItems := 1, reservedGrams := 468, state := .active })).descriptor d := rfl
  rw [h, State.descriptor_modDescriptor]
  simp [linked, State.descriptor, State.reset]
theorem soundState_steps : ∃ t, step soundState = .next t := ⟨_, rfl⟩

theorem witness_StepKeepsOutboundSound : OutboundSound soundState := by
  have hc : ∀ i, (soundState.context i).state ≠ .reporting := by
    intro i
    rw [soundState_context]
    split <;> decide
  refine ⟨by decide, fun h => ?_, by decide⟩
  rcases h with h | h | ⟨i, h⟩
  · exact absurd h (by decide)
  · exact absurd rfl h
  · exact absurd h (hc i)
theorem witness_StepKeepsContextsSound : ContextsSound soundState := by
  refine ⟨⟨fun t i => ?_, ?_⟩, ⟨by decide, fun i => ?_⟩, fun i => ?_⟩
  · rw [soundState_lookup, soundState_context]
    by_cases hi : 0 = i <;> by_cases ht : (341 : Tray) = t <;>
      simp [hi, ht, ContextState.live, knitGraded, knitSealed, knitContext]
  · rw [soundState_lookup]
    decide
  · rw [soundState_context]
    have h : soundState.gradingQueue = [] := rfl
    split <;> simp [h]
  · rw [soundState_context]
    have h : soundState.inFlight = none := rfl
    split <;> simp [h]
theorem witness_StepKeepsTotesSound : TotesSound soundState := by
  have ho : soundState.orders = [knitOrder] := rfl
  have hw : soundState.waitingTotes = [] := rfl
  have hk : ∀ k, soundState.ordersOf k = if 6 = k then [knitOrder] else [] := by
    intro k
    by_cases h : 6 = k <;> simp [State.ordersOf, ho, knitOrder, h]
  constructor
  · intro k
    rw [soundState_chute]
    unfold ChuteSound
    split <;> decide
  · intro k
    rw [soundState_chute]
    split <;> decide
  · intro k j d
    simp only [soundState_chute]
    intro hkj hd
    by_cases h6 : 6 = k
    · rw [if_neg (fun h7 => hkj (h6.symm.trans h7))]
      simp [ChuteRecord.sequence]
    · rw [if_neg h6] at hd
      exact absurd hd (by simp [ChuteRecord.sequence])
  · intro d
    simp only [soundState_chute, soundState_descriptor]
    refine ⟨fun h => ?_, fun ⟨k, h⟩ => ?_⟩
    · split at h <;> exact absurd h (by decide)
    · split at h <;> simp at h
  · intro d
    simp only [soundState_chute, soundState_descriptor]
    refine ⟨fun h => ⟨6, ?_⟩, fun ⟨k, h⟩ => ?_⟩
    · split at h
      · simp [*]
      · exact absurd h (by decide)
    · split at h
      · simp at h
        simp [h]
      · exact absurd h (by simp)
  · intro d
    rw [soundState_descriptor, hw]
    split <;> simp
  · rw [hw]
    decide
  · intro o h
    rw [ho] at h
    rw [List.mem_singleton.1 h, soundState_chute]
    decide
  · intro k d h
    rw [soundState_chute] at h
    split at h
    · rw [← Option.some.inj h, soundState_descriptor, hk]
      unfold TallySound
      simp [*]
      decide
    · exact absurd h (by simp)
  · intro k
    rw [hk]
    split <;> decide
  · intro k h
    rw [soundState_chute] at h
    split at h <;> exact absurd h (by decide)
  · rw [ho]
    decide
  · intro o h i hi
    rw [ho] at h
    obtain rfl := List.mem_singleton.1 h
    rw [soundState_context, ← Option.some.inj hi]
    decide
  · intro i h
    rw [soundState_context] at h
    refine ⟨knitOrder, by simp [ho], ?_⟩
    split at h
    · simp [knitOrder, *]
    · exact absurd h (by decide)
  · intro k n h
    rw [soundState_descriptor]
    simp only [soundState_chute] at h ⊢
    split at h
    · next h6 =>
      obtain rfl : n = 0 := by
        simp [ChuteRecord.sequence] at h
        exact h
      simp only [if_pos h6]
      rfl
    · exact absurd h (by simp [ChuteRecord.sequence])
  · intro d h
    rw [soundState_descriptor] at h ⊢
    split at h
    · exact absurd h (by decide)
    · next h3 => rw [if_neg h3]
  · intro d h
    rw [soundState_descriptor] at h
    split at h <;> exact absurd h (by decide)
  · intro d
    rw [soundState_descriptor]
    split <;> decide
  · intro d
    rw [soundState_descriptor]
    split <;> decide
theorem witness_StepKeepsListsAndQueuesSound :
    (∀ i, ListSound (soundState.context i) ∧ ReportsSound (soundState.context i)) ∧ PortQueuesSound soundState ∧
    RangesSound soundState := by
  refine ⟨fun i => ?_, ?_, fun i => ?_, fun r h => ?_, by decide⟩
  · rw [soundState_context]
    split <;> unfold ListSound ReportsSound <;> decide +kernel
  · unfold PortQueuesSound
    decide +kernel
  · rw [soundState_context]
    split
    · exact ⟨by decide, by decide, fun m h => by cases h; decide, by decide, by decide, fun ct h => by
        cases h
        unfold TargetSound
        decide⟩
    · exact ⟨by decide, by decide, fun m h => absurd h (by simp), by decide, by decide, fun ct h => absurd h (by simp)⟩
  · exact absurd h List.not_mem_nil
theorem witness_StepKeepsPortsSound :
    (∀ p, PortSound (soundState.port p)) ∧ ExpectedSound soundState ∧
    (let s := withPort 5 { state := .pausing } (withContext 0 { knitContext with reported := 0x07 } linked);
      (s.context 0).state = .opened ∧ portIn 5 (s.context 0).expected = true ∧ portIn 5 (s.context 0).reported = false ∧
      ∀ i p, (s.context i).state = .opened → portIn p (s.context i).expected = true →
        portIn p (s.context i).reported = false → (s.port p).state = .ready ∨ (s.port p).state = .pausing) := by
  refine ⟨?_, fun i p h => ?_, ?_⟩
  · unfold PortSound
    decide +kernel
  · rw [soundState_context] at h
    split at h <;> cases h
  · decide +kernel
theorem witness_StepKeepsTablesSound : TablesSound soundState := by
  unfold TablesSound ProfileSound WindowSound TargetSound SettingsSound
  decide +kernel

end Sys2Proof.Tests
end

section
/-! Sets of ports as PortSet holds them, read port by port (R148). -/

namespace Sys2Proof.Machine

/-! ### Sets of ports -/

/-- The set that holds port p alone (R148). -/
theorem getLsbD_onePort : ∀ p q : StationPort, (1#8 <<< p.val).getLsbD q.val = decide (q = p) := by decide

theorem portIn_portInsert (p q : StationPort) (ps : PortSet) :
    portIn q (portInsert p ps) = true ↔ q = p ∨ portIn q ps = true := by
  unfold portIn portInsert
  rw [BitVec.getLsbD_or, getLsbD_onePort, Bool.or_eq_true, decide_eq_true_eq, or_comm]

theorem portIn_portErase (p q : StationPort) (ps : PortSet) :
    portIn q (portErase p ps) = true ↔ q ≠ p ∧ portIn q ps = true := by
  unfold portIn portErase
  rw [BitVec.getLsbD_and, BitVec.getLsbD_not, getLsbD_onePort]
  simp [and_comm]

/-- Two sets with the same ports are one. -/
theorem portSet_ext {ps qs : PortSet} (h : ∀ q, portIn q ps = portIn q qs) : ps = qs :=
  BitVec.eq_of_getLsbD_eq fun i hi => h ⟨i, hi⟩

theorem portSet_eq_zero (ps : PortSet) : ps = 0 ↔ ∀ q, portIn q ps = false :=
  ⟨fun h q => by rw [h]; exact BitVec.getLsbD_zero, fun h => portSet_ext fun q => (h q).trans BitVec.getLsbD_zero.symm⟩

theorem portSubset_iff (ps qs : PortSet) :
    portSubset ps qs = true ↔ ∀ q, portIn q ps = true → portIn q qs = true := by
  have h : portSubset ps qs = true ↔ ps &&& ~~~qs = 0 := beq_iff_eq
  rw [h, portSet_eq_zero]
  refine forall_congr' fun q => ?_
  unfold portIn
  rw [BitVec.getLsbD_and, BitVec.getLsbD_not]
  simp

/-- A port is in the READY set exactly where its state is READY (R11). -/
theorem portIn_readyPorts (s : State) (q : StationPort) :
    portIn q s.readyPorts = true ↔ (s.port q).state = .ready := by
  have fold : ∀ (l : List StationPort) (ps : PortSet),
      portIn q (l.foldl (fun ps p => if (s.port p).state = .ready then portInsert p ps else ps) ps) = true ↔
        portIn q ps = true ∨ q ∈ l ∧ (s.port q).state = .ready := by
    intro l
    induction l with
    | nil => simp
    | cons p l ih =>
      intro ps
      rw [List.foldl_cons, ih, List.mem_cons]
      by_cases hp : q = p
      · subst hp
        split <;> simp_all [portIn_portInsert]
      · split <;> simp [portIn_portInsert, hp]
  rw [State.readyPorts, fold, (portSet_eq_zero 0).mp rfl]
  simp [List.mem_finRange]

end Sys2Proof.Machine
end

section
/-! Seals, closes and openings of contexts as one equation each, and the statements on INDUCT and on a close (R3, R6 to R11, R20, R163). -/

namespace Sys2Proof.Machine

/-! ### Seals, closes and withdrawals -/

/-- A context replaced as a whole does not depend on what its slot held. -/
theorem State.modContext_const (s : State) (i : ContextIndex) (f : Context → Context) (c : Context) :
    (s.modContext i f).modContext i (fun _ => c) = s.modContext i (fun _ => c) := by simp

/-- A change of one context is the writing of its new record. -/
theorem State.modContext_congr (s : State) (i : ContextIndex) {f g : Context → Context} (h : f (s.context i) = g (s.context i)) :
    s.modContext i f = s.modContext i g := by
  unfold State.modContext
  rw [h]

/-- The seal of a context written into its slot as OPEN (R20, R27). -/
theorem State.seal_modContext (s : State) (i : ContextIndex) (c : Context) (h : c.state = .opened) :
    (s.modContext i (fun _ => c)).seal i = s.withSealed i c := by
  unfold State.seal State.enqueue State.withSealed
  rw [State.context_modContext_self, if_pos h, State.modContext_modContext]
  dsimp only
  by_cases hq : s.gradingQueue = []
  · cases hf : s.inFlight with
    | none => simp [hq, hf, State.startGrading, State.detectedClasses, State.modContext, State.context]
    | some g => simp [hq, hf, State.startGrading, State.modContext]
  · simp [hq, State.modContext]

/-- The seal of an OPEN context (R20, R27). -/
theorem State.seal_eq_withSealed (s : State) (i : ContextIndex) (h : (s.context i).state = .opened) :
    s.seal i = s.withSealed i (s.context i) := by
  rw [← State.seal_modContext s i _ h, State.modContext_congr s i (g := fun c => c) rfl, State.modContext_same]

/-- A context that opens is as 1.1 gives it. -/
theorem openedContext_eq (t : Tray) (f : InductItem) (e : PortSet) : openedContext t f e = inductedContext t f e := by
  have h : min Config.gramsMax f.catalogue.toNat = if f.catalogue.toNat ≤ 20000 then f.catalogue.toNat else 20000 := by
    unfold Config.gramsMax
    split <;> omega
  unfold openedContext inductedContext
  rw [h]

/-- What an opening does (R6, R11). -/
theorem State.openContext_opens (s : State) (j : ContextIndex) (t : Tray) (f : InductItem) :
    OpensContext s j t f (s.openContext j t f) := by
  refine ⟨s.readyPorts, portIn_readyPorts s, fun h => ?_, fun h => ?_⟩
  · rw [← openedContext_eq]
    exact if_neg h
  · rw [← openedContext_eq]
    exact (if_pos h).trans (State.seal_modContext (s.setMap t (some j)) j _ rfl)

/-- The slot found for an induction is the lowest FREE one (R6). -/
theorem State.freeSlot_eq_some (s : State) (j : ContextIndex) (h : s.lowestFree j) : s.freeSlot = some j := by
  obtain ⟨hj, hlow⟩ := h
  unfold State.freeSlot allContexts
  rw [List.find?_eq_some_iff_getElem]
  refine ⟨by simpa using hj, j.val, by simp, by simp, fun n hn => ?_⟩
  have := hlow ⟨n, by omega⟩ hn
  simpa using this

theorem State.freeSlot_eq_none (s : State) (h : ∀ i, (s.context i).state ≠ .free) : s.freeSlot = none := by
  unfold State.freeSlot
  rw [List.find?_eq_none]
  intro i _
  simpa using h i

/-- The slot found is FREE. -/
theorem State.freeSlot_free {s : State} {j : ContextIndex} (h : s.freeSlot = some j) : (s.context j).state = .free := by
  simpa using List.find?_some h

theorem ne_noTray {t : Tray} (h : t.val ≠ 1023) : t ≠ noTray := fun e => h (congrArg Fin.val e)

/-- A closing context as it waits for room (R3). -/
def Context.closedAs (c : Context) (o : ItemOutcome) (d : Option Delivery) (stamp : BitVec 32) : Context :=
  { c with state := .reporting, outcome := some o, delivery := d, stamp := some stamp }

/-- The item context table without a closing context: tray map, grading queue and stamp counter (R1, R3). -/
def State.withoutContext (s : State) (i : ContextIndex) : State :=
  { s with
    gradingQueue := if (s.context i).state = .queued then s.gradingQueue.erase i else s.gradingQueue
    trayMap := s.trayMap.set (s.context i).tray none
    stampCounter := s.stampCounter + 1 }

/-- A close: the context leaves map and queue, and its item result enters a queue with room or waits (R3, R163). -/
theorem State.closeContext_cases (s : State) (i : ContextIndex) (o : ItemOutcome) (d : Option Delivery) :
    s.outbound.length < 64 ∧ s.closeContext i o d = { (s.withoutContext i).modContext i (fun _ => {}) with
        outbound := s.outbound ++ [.item ((s.context i).closedAs o d s.stampCounter).itemResult] } ∨
      64 ≤ s.outbound.length ∧ s.closeContext i o d =
        (s.withoutContext i).modContext i (fun c => c.closedAs o d s.stampCounter) := by
  have h : s.closeContext i o d =
      ((s.withoutContext i).modContext i (fun c => c.closedAs o d s.stampCounter)).offerItem i := by
    unfold State.closeContext State.withoutContext
    by_cases hq : (s.context i).state = .queued
    · simp only [if_pos hq]
      rfl
    · simp only [if_neg hq]
      rfl
  rw [h]
  rcases State.offerItem_cases ((s.withoutContext i).modContext i (fun c => c.closedAs o d s.stampCounter)) i with ⟨hl, he⟩ | ⟨hl, he⟩
  · refine .inl ⟨hl, ?_⟩
    rw [he, State.context_modContext_self, State.modContext_const]
    rfl
  · exact .inr ⟨hl, he⟩

/-- Settles O7: the two cases of a close. -/
theorem closedContextIsReported : Obligations.ClosedContextIsReported := by
  refine ⟨fun _ => rfl, fun s i o d => ⟨fun h => ?_, fun h => ?_⟩⟩
  · rcases s.closeContext_cases i o d with ⟨_, he⟩ | ⟨hl, _⟩
    · exact he
    · omega
  · rcases s.closeContext_cases i o d with ⟨hl, _⟩ | ⟨_, he⟩
    · omega
    · exact he

/-- Settles O9. -/
theorem inductOpensLowestFreeSlot : Obligations.InductOpensLowestFreeSlot := by
  intro s t f j ht hmap hj
  refine ⟨s.openContext j t f, ?_, s.openContext_opens j t f⟩
  simp only [exec, execInduct, induct, if_neg (ne_noTray ht), hmap, s.freeSlot_eq_some j hj]

/-- Settles O10. -/
theorem inductReplacesEarlierContext : Obligations.InductReplacesEarlierContext := by
  intro s t f i j ht hmap hi hj
  refine ⟨_, ?_, State.openContext_opens _ j t f⟩
  have hbusy : ¬ ((s.context i).state = .grading ∨ (s.context i).state = .ordered) := by
    rcases hi with h | h | h <;> simp [h]
  simp only [exec, execInduct, induct, if_neg (ne_noTray ht), hmap, if_neg hbusy, s.freeSlot_eq_some j hj]

/-- Settles O11. -/
theorem inductIsRefused : Obligations.InductIsRefused := by
  intro s t f
  refine ⟨fun ht => ?_, fun i ht hmap hi => ?_, fun ht hi hfree => ?_⟩
  · have : t = noTray := Fin.ext ht
    simp only [exec, execInduct, induct, if_pos this]
  · simp only [exec, execInduct, induct, if_neg (ne_noTray ht), hmap, if_pos hi]
  · simp only [exec, execInduct, induct, if_neg (ne_noTray ht), s.freeSlot_eq_none hfree]
    cases hmap : s.lookup t with
    | none => rfl
    | some i =>
      obtain ⟨hg, ho⟩ := hi i hmap
      simp only [if_neg (not_or.mpr ⟨hg, ho⟩)]

end Sys2Proof.Machine
end

section
/-! The taking of an observation record: what its leaving the queue keeps, its routing, and each kind's merge (R12 to R20). -/

namespace Sys2Proof.Machine

/-! ### Taking records -/

@[simp] theorem State.sendStation_port (s : State) (p : StationPort) (f : StationFrame) (q : StationPort) :
    (s.sendStation p f).port q = s.port q := by rw [State.sendStation_frame]; rfl

/-- The RELEASE test on the queue's rest is the state after the head has left (R141). -/
theorem State.releaseTest_eq_afterLeave (s : State) (p : StationPort) (rest : List ObsRecord) :
    (s.modPort p (fun P => { P with inbound := rest })).releaseTest p = s.afterLeave p rest := by
  unfold State.releaseTest State.afterLeave
  simp

/-- A record that leaves a queue changes its port and what waits at it alone. -/
theorem State.afterLeave_frame (s : State) (p : StationPort) (rest : List ObsRecord) : s.afterLeave p rest =
    { s with ports := (s.afterLeave p rest).ports, stationTx := (s.afterLeave p rest).stationTx } := by
  unfold State.afterLeave
  dsimp only
  split
  · rw [State.sendStation_frame]
    rfl
  · rfl

@[simp] theorem State.afterLeave_context (s : State) (p : StationPort) (rest : List ObsRecord) (i : ContextIndex) :
    (s.afterLeave p rest).context i = s.context i := by rw [State.afterLeave_frame]; rfl

@[simp] theorem State.afterLeave_lookup (s : State) (p : StationPort) (rest : List ObsRecord) (t : Tray) :
    (s.afterLeave p rest).lookup t = s.lookup t := by rw [State.afterLeave_frame]; rfl

/-- The port itself keeps all but its queue and HOLD state. -/
theorem State.afterLeave_port (s : State) (p : StationPort) (rest : List ObsRecord) : ∃ hold,
    (s.afterLeave p rest).port p = { s.port p with inbound := rest, hold := hold } := by
  unfold State.afterLeave
  dsimp only
  split
  · exact ⟨false, by simp⟩
  · exact ⟨(s.port p).hold, by simp⟩

@[simp] theorem State.afterLeave_detectedClass (s : State) (p : StationPort) (rest : List ObsRecord) :
    ((s.afterLeave p rest).port p).detectedClass = (s.port p).detectedClass := by
  obtain ⟨_, h⟩ := s.afterLeave_port p rest
  rw [h]

/-- The routing of a record does not depend on its having left the queue. -/
theorem State.routeRecord_afterLeave (s : State) (p : StationPort) (rest : List ObsRecord) (t : Tray) (k : RecordKind) :
    (s.afterLeave p rest).routeRecord p t k = s.routeRecord p t k := by
  unfold State.routeRecord
  simp

/-- What a record of a kind is merged by. -/
def mergeOf (p : StationPort) (b : RecordBody) : State → ContextIndex → State :=
  match b with
  | .defect code zone extent => mergeDefectRecord p (.defect code zone extent)
  | .tag present mismatch => mergeTagRecord (.tag present mismatch)
  | .weight grams => mergeWeightRecord (.weight grams)
  | .itemDone => mergeItemDone p .itemDone

/-- The row that takes the head of a queue routes it in the state after it has left (R12). -/
theorem exec_takeRow {s : State} {p : StationPort} {r : ObsRecord} {rest : List ObsRecord}
    (h : (s.port p).inbound = r :: rest) :
    exec (takeRow p r.body.kind) s = .next ((s.afterLeave p rest).routeAndMerge p r (mergeOf p r.body)) := by
  obtain ⟨t, b⟩ := r
  cases b <;>
    exact congrArg Host.Outcome.next ((s.takeRecord_head h rfl _).trans (by rw [State.releaseTest_eq_afterLeave]; rfl))

/-- A record that passes the routing tests is merged (R12). -/
theorem exec_takeRow_merged {s : State} {p : StationPort} {r : ObsRecord} {rest : List ObsRecord} {i : ContextIndex}
    (h : (s.port p).inbound = r :: rest) (hmap : s.lookup r.tray = some i) (hopen : (s.context i).state = .opened)
    (hexp : portIn p (s.context i).expected = true) (hcls : (s.port p).detectedClass.allows r.body.kind = true) :
    exec (takeRow p r.body.kind) s = .next (mergeOf p r.body (s.afterLeave p rest) i) := by
  have hr := (s.routeRecord_merged p r.tray r.body.kind i).mpr ⟨hmap, hopen, hexp, hcls⟩
  rw [exec_takeRow h, State.routeAndMerge, State.routeRecord_afterLeave, hr]

/-- A record that fails a routing test is discarded: of the causes LATE alone sets the late flag (R12). -/
theorem exec_takeRow_discarded {s : State} {p : StationPort} {r : ObsRecord} {rest : List ObsRecord} {cause : DiscardCause}
    (h : (s.port p).inbound = r :: rest) (hr : s.routeRecord p r.tray r.body.kind = .inl cause) (hl : cause ≠ .late) :
    exec (takeRow p r.body.kind) s =
      .next ((s.afterLeave p rest).offerEvent (.obsDiscarded p r.tray cause r.body.kind)) := by
  rw [exec_takeRow h, State.routeAndMerge, State.routeRecord_afterLeave, hr]
  cases cause <;> simp_all

/-- A record whose kind its port's class does not allow is discarded KIND_NOT_ALLOWED (R12). -/
theorem State.routeRecord_kindNotAllowed (s : State) {p : StationPort} {t : Tray} {k : RecordKind} {i : ContextIndex}
    (hmap : s.lookup t = some i) (hopen : (s.context i).state = .opened) (hexp : portIn p (s.context i).expected = true)
    (hcls : (s.port p).detectedClass.allows k = false) : s.routeRecord p t k = .inl .kindNotAllowed := by
  simp [State.routeRecord, hmap, hopen, hexp, hcls]

/-- Settles O12: the routing test that fails names the cause. -/
theorem takenRecordIsDiscarded : Obligations.TakenRecordIsDiscarded := by
  intro s p r rest h
  refine ⟨fun hmap => ?_, fun i hmap hopen => ?_, fun i hmap hopen hexp => ?_, fun i hmap hopen hexp hcls => ?_⟩
  · exact exec_takeRow_discarded h ((s.routeRecord_noContext p r.tray _).mpr hmap) (by decide)
  · have hr := (s.routeRecord_late p r.tray r.body.kind).mpr ⟨i, hmap, hopen⟩
    rw [exec_takeRow h, State.routeAndMerge, State.routeRecord_afterLeave, hr]
    simp only [State.afterLeave_lookup, hmap, State.forContext]
  · exact exec_takeRow_discarded h ((s.routeRecord_unexpectedPort p r.tray _).mpr ⟨i, hmap, hopen, hexp⟩) (by decide)
  · refine exec_takeRow_discarded h (s.routeRecord_kindNotAllowed hmap hopen hexp ?_) (by decide)
    rcases hcls with ⟨hc, hk⟩ | ⟨hc, hk | hk⟩ | ⟨hc, hk | hk⟩ | ⟨hc, hk⟩ <;> rw [hc, hk] <;> rfl

/-! ### Defect records -/

/-- The price of a record does not depend on its having left the queue (R13). -/
theorem State.price_afterLeave (s : State) (p : StationPort) (rest : List ObsRecord) (category : Fin 64) (code : Fin 128)
    (zone : Fin 4) (extent : Fin 8) :
    (s.afterLeave p rest).price p category code zone extent = s.price p category code zone extent := by
  obtain ⟨_, h⟩ := s.afterLeave_port p rest
  unfold State.price
  rw [h, State.afterLeave_frame]
  rfl

theorem weakest_mem {i : Nat} {w : Observation} : ∀ {l : List Observation}, weakest l = some (i, w) → w ∈ l
  | [], h => by simp [weakest] at h
  | o :: rest, h => by
    unfold weakest at h
    cases hr : weakest rest with
    | none => simp_all
    | some jv =>
      have hmem : jv.2 ∈ rest := weakest_mem (i := jv.1) hr
      simp only [hr] at h
      split at h
      · simp_all
      · simp_all

/-- The weakest entry is the last of those with the fewest points (R15). -/
theorem weakest_split {x : Observation} {pre post : List Observation} (hpre : ∀ y ∈ pre, x.points ≤ y.points)
    (hpost : ∀ y ∈ post, x.points < y.points) : weakest (pre ++ x :: post) = some (pre.length, x) := by
  induction pre with
  | nil =>
    rw [List.nil_append, weakest]
    cases hw : weakest post with
    | none => rfl
    | some jv => exact if_neg (Nat.not_le.mpr (hpost _ (weakest_mem (i := jv.1) hw)))
  | cons y pre ih =>
    rw [List.cons_append, weakest, ih (fun z hz => hpre z (List.mem_cons_of_mem y hz))]
    exact if_pos (hpre y List.mem_cons_self)

/-- A record of a code that the list holds is merged into the entry of that code (R14). -/
theorem Context.mergeDefect_held {c : Context} {o h : Observation} {pre post : List Observation}
    (hl : c.observations = pre ++ h :: post) (hc : h.code = o.code) (hne : ∀ x ∈ pre ++ post, x.code ≠ o.code) :
    c.mergeDefect o = { c with observations := pre ++ h.merge o :: post } := by
  have other : ∀ l : List Observation, (∀ x ∈ l, x.code ≠ o.code) →
      l.map (fun x => if x.code == o.code then x.merge o else x) = l := fun l hl =>
    (List.map_congr_left fun x hx => by simp [hl x hx]).trans (List.map_id l)
  have hany : c.observations.any (fun x => x.code == o.code) = true := by simp [hl, hc]
  rw [Context.mergeDefect, if_pos hany, hl, List.map_append, List.map_cons,
    other pre fun x hx => hne x (List.mem_append_left _ hx), other post fun x hx => hne x (List.mem_append_right _ hx)]
  simp [hc]

theorem Context.mergeDefect_new {c : Context} {o : Observation} (hne : ∀ x ∈ c.observations, x.code ≠ o.code)
    (hl : c.observations.length < 12) : c.mergeDefect o = { c with observations := c.observations ++ [o] } := by
  have hany : ¬ c.observations.any (fun x => x.code == o.code) = true := by simpa using hne
  rw [Context.mergeDefect, if_neg hany]
  exact if_pos hl

/-- A record of a new code meets a full list: the weakest entry gives way to a stronger one (R15). -/
theorem Context.mergeDefect_full {c : Context} {o x : Observation} {pre post : List Observation}
    (hne : ∀ y ∈ c.observations, y.code ≠ o.code) (hfull : 12 ≤ c.observations.length)
    (hl : c.observations = pre ++ x :: post) (hpre : ∀ y ∈ pre, x.points ≤ y.points)
    (hpost : ∀ y ∈ post, x.points < y.points) : c.mergeDefect o =
      if x.points < o.points then
        { c with observations := pre ++ o :: post, overflow := true, manualDropped := c.manualDropped || x.manual }
      else { c with overflow := true, manualDropped := c.manualDropped || o.manual } := by
  have hany : ¬ c.observations.any (fun x => x.code == o.code) = true := by simpa using hne
  rw [Context.mergeDefect, if_neg hany, if_neg (show ¬ _ < Config.observationCapacity from Nat.not_lt.mpr hfull), hl,
    weakest_split hpre hpost]
  simp

/-- A SCALE port alone allows no DEFECT record (R12). -/
theorem StationClass.allows_defect {k : StationClass} (h : k ≠ .scale) : k.allows .defect = true := by
  cases k <;> simp_all [StationClass.allows]

/-- The price written out, by the port's capability and the category's profile (R13, R49). -/
theorem State.price_eq (s : State) (p : StationPort) (category : Fin 64) (code : Fin 128) (zone : Fin 4) (extent : Fin 8)
    {z e : Nat} {set : Fin 16}
    (hbasic : (s.port p).capability = .basic → z = s.settings.basicZone ∧ e = s.settings.basicExtent)
    (hext : (s.port p).capability = .extended →
      z = (if zone = 3 then 2 else zone.val) ∧ e = (if extent = 0 then 1 else if 4 < extent then 4 else extent.val))
    (hvalid : s.profiles[category].valid = true → set = s.profiles[category].defectSet)
    (hinvalid : s.profiles[category].valid = false → set = 0) :
    s.price p category code zone extent =
      { code := code, zone := z, extent := e, points := s.weights[set][code].weight * 2 ^ z * e / 4,
        manual := s.weights[set][code].manual } := by
  have hzone : ∀ z : Fin 4, zoneTaken z = if z = 3 then 2 else z.val := by decide
  have hextent : ∀ e : Fin 8, extentTaken e = if e = 0 then 1 else if 4 < e then 4 else e.val := by decide
  have hset : s.defectSetOf category = set := by
    unfold State.defectSetOf
    dsimp only
    split
    · next h => exact (hvalid h).symm
    · next h => exact (hinvalid (by simpa using h)).symm
  subst hset
  unfold State.price
  cases hcap : (s.port p).capability with
  | basic =>
    obtain ⟨hz, he⟩ := hbasic hcap
    simp only [hz, he, defectPoints, zoneFactor]
  | extended =>
    obtain ⟨hz, he⟩ := hext hcap
    simp only [hz, he, hzone, hextent, defectPoints, zoneFactor]

/-- Settles O13: the record is routed and priced, and the merge goes by the place of its code. -/
theorem defectRecordIsPricedAndMerged : Obligations.DefectRecordIsPricedAndMerged := by
  intro s p i t rest code zone extent z e set h hmap hopen hexp hcls hbasic hext hvalid hinvalid
  dsimp only
  have hexec : ∀ c', (s.context i).mergeDefect (s.price p (s.context i).category code zone extent) = c' →
      exec (.takeDefectRecord p) s = .next ((s.afterLeave p rest).modContext i (fun _ => c')) := by
    rintro c' rfl
    refine (exec_takeRow_merged h hmap hopen hexp (StationClass.allows_defect hcls)).trans (congrArg Host.Outcome.next ?_)
    refine State.modContext_congr (s.afterLeave p rest) i
      (f := fun c => c.mergeDefect ((s.afterLeave p rest).price p c.category code zone extent)) ?_
    rw [State.afterLeave_context, State.price_afterLeave]
  rw [s.price_eq p _ code zone extent hbasic hext hvalid hinvalid] at hexec
  refine ⟨fun pre h post hl hc hne => hexec _ ?_, fun hne hl => hexec _ (Context.mergeDefect_new hne hl),
    fun pre x post hne hfull hl hpre hpost => ⟨fun hlt => hexec _ ?_, fun hle => hexec _ ?_⟩⟩
  · rw [Context.mergeDefect_held hl hc hne, Observation.merge]
  · rw [Context.mergeDefect_full hne hfull hl hpre hpost, if_pos hlt]
  · rw [Context.mergeDefect_full hne hfull hl hpre hpost, if_neg (Nat.not_lt.mpr hle)]

/-! ### Weight, tag and ITEM_DONE records -/

/-- Settles O14: the weight kept by the three cases of R17, and the tag merge by what the record says. -/
theorem tagAndWeightRecordsMerge : Obligations.TagAndWeightRecordsMerge := by
  refine ⟨fun s p i t rest grams m h hmap hopen hexp hcls hm => ?_,
    fun s p i t rest present mismatch h hmap hopen hexp hcls => ?_⟩
  · have hclamp : min Config.gramsMax grams.toNat = m := by
      rw [hm, Config.gramsMax]
      split <;> omega
    have hexec : ∀ k, weightKept (s.context i).catalogue (s.context i).measured m = k → exec (.takeWeightRecord p) s =
        .next ((s.afterLeave p rest).modContext i (fun _ => { s.context i with measured := some k })) := by
      rintro k rfl
      refine (exec_takeRow_merged h hmap hopen hexp (by rw [hcls]; rfl)).trans (congrArg Host.Outcome.next ?_)
      refine State.modContext_congr (s.afterLeave p rest) i (f := fun c => c.mergeWeight grams) ?_
      rw [State.afterLeave_context, Context.mergeWeight, hclamp]
    have hkeep : ∀ g, (s.context i).measured = some g →
        weightKept (s.context i).catalogue (s.context i).measured m = g → exec (.takeWeightRecord p) s =
          .next ((s.afterLeave p rest).modContext i (fun _ => s.context i)) := by
      intro g hg hk
      have hsame := hexec g hk
      rwa [← hg] at hsame
    refine ⟨fun hn => hexec m (by rw [hn]; rfl), fun g hg hcat => ⟨fun hlt => hexec m ?_, fun hle => hkeep g hg ?_⟩,
      fun g hg hcat => ⟨fun hlt => hexec m ?_, fun hle => hkeep g hg ?_⟩⟩
    · have hd : deviation g (s.context i).catalogue < deviation m (s.context i).catalogue := by
        unfold deviation
        omega
      simp [weightKept, hg, hcat, hd]
    · have hd : ¬ deviation g (s.context i).catalogue < deviation m (s.context i).catalogue := by
        unfold deviation
        omega
      simp [weightKept, hg, hcat, hd]
    · simp [weightKept, hg, hcat, hlt]
    · simp [weightKept, hg, hcat, Nat.not_lt.mpr hle]
  · refine (exec_takeRow_merged h hmap hopen hexp (by rcases hcls with hc | hc <;> rw [hc] <;> rfl)).trans
      (congrArg Host.Outcome.next ?_)
    refine State.modContext_congr (s.afterLeave p rest) i (f := fun c => c.mergeTag present mismatch) ?_
    rw [State.afterLeave_context, Context.mergeTag]
    have htags : ∀ held : Option Bool, some (present && held.getD true) =
        if present = false then some false else if held = none then some true else held := fun held => by
      cases present <;> rcases held with _ | _ <;> rfl
    have hmis : ∀ held : Bool, (held || mismatch) = if mismatch = true then true else held := by
      cases mismatch <;> decide
    rw [htags, hmis]

/-- Settles O15: the context with its port reported seals where no expected port is left. -/
theorem itemDoneRecordReportsAndSeals : Obligations.ItemDoneRecordReportsAndSeals := by
  intro s p i t rest h hmap hopen hexp
  refine ⟨portInsert p (s.context i).reported, fun q => portIn_portInsert p q _, ?_⟩
  dsimp only
  have hexec := exec_takeRow_merged h hmap hopen hexp (by cases (s.port p).detectedClass <;> rfl)
  have hmod : (s.afterLeave p rest).modContext i (fun c => { c with reported := portInsert p c.reported }) =
      (s.afterLeave p rest).modContext i
        (fun _ => { s.context i with reported := portInsert p (s.context i).reported }) :=
    State.modContext_congr _ i (by simp)
  simp only [mergeOf, mergeItemDone, hmod, State.context_modContext_self] at hexec
  refine ⟨fun hall => hexec.trans (congrArg Host.Outcome.next ?_),
    fun ⟨q, hq, hr⟩ => hexec.trans (congrArg Host.Outcome.next ?_)⟩
  · rw [if_pos ((portSubset_iff _ _).mpr hall)]
    exact State.seal_modContext _ i _ hopen
  · refine if_neg fun hs => ?_
    rw [(portSubset_iff _ _).mp hs q hq] at hr
    cases hr

end Sys2Proof.Machine
end

section
/-! Withdrawals, gradings and waiting table writes (R21, R27, R43 to R46, R54). -/

namespace Sys2Proof.Machine

/-! ### Withdrawals (R21) -/

theorem Context.losesPort_iff (p : StationPort) (c : Context) : c.losesPort p = true ↔
    c.state = .opened ∧ portIn p c.expected = true ∧ portIn p c.reported = false := by
  simp [Context.losesPort, and_assoc]

/-- A context seals by a withdrawal where every other expected port has reported. -/
theorem Context.sealsWithout_iff (p : StationPort) (c : Context) : c.sealsWithout p = true ↔ c.losesPort p = true ∧
    ∀ q, q ≠ p → portIn q c.expected = true → portIn q c.reported = true := by
  simp only [Context.sealsWithout, Bool.and_eq_true, portSubset_iff, portIn_portErase, and_imp]

/-- The contexts that a withdrawal seals, in ascending order of index. -/
def State.sealedBy (s : State) (p : StationPort) : List ContextIndex :=
  allContexts.filter (fun i => (s.context i).sealsWithout p)

theorem State.mem_sealedBy (s : State) (p : StationPort) (i : ContextIndex) :
    i ∈ s.sealedBy p ↔ (s.context i).sealsWithout p = true := by
  simp [State.sealedBy, allContexts, List.mem_finRange]

theorem State.sealedBy_pairwise (s : State) (p : StationPort) : (s.sealedBy p).Pairwise (fun i j => i < j) :=
  (List.pairwise_lt_finRange 256).filter _

theorem State.sealedBy_nodup (s : State) (p : StationPort) : (s.sealedBy p).Nodup := (List.nodup_finRange 256).filter _

/-- A withdrawal before a grading starts: every context is as the withdrawal leaves it, and those sealed join the queue. -/
def State.withdrawing (s : State) (p : StationPort) : State :=
  { s with
    contexts := vecMap (Context.withdrawn p) s.contexts
    gradingQueue := s.gradingQueue ++ s.sealedBy p }

@[simp] theorem State.withdrawing_context (s : State) (p : StationPort) (i : ContextIndex) :
    (s.withdrawing p).context i = (s.context i).withdrawn p := vecMap_getElem ..

/-- A withdrawal is that, and the start of a grading where the queue was empty (R27). -/
theorem State.withdraw_eq (s : State) (p : StationPort) :
    s.withdraw p = if s.gradingQueue = [] then (s.withdrawing p).startGrading else s.withdrawing p := by
  have h : s.withdraw p = if s.gradingQueue.isEmpty = true then (s.withdrawing p).startGrading else s.withdrawing p := rfl
  rw [h]
  simp only [List.isEmpty_iff]

/-- The cases of a withdrawal: the idle unit starts with the first context sealed, or none starts. -/
theorem State.withdraw_cases (s : State) (p : StationPort) :
    (∃ i rest, s.gradingQueue = [] ∧ s.inFlight = none ∧ s.sealedBy p = i :: rest ∧
      s.withdraw p = { s.withdrawing p with
        gradingQueue := rest, inFlight := some { context := i, classes := s.detectedClasses } }.modContext i
          (fun c => { c with state := .grading })) ∨
      (s.gradingQueue ≠ [] ∨ s.inFlight ≠ none ∨ s.sealedBy p = []) ∧ s.withdraw p = s.withdrawing p := by
  rw [State.withdraw_eq]
  split
  · next hq =>
    rcases (s.withdrawing p).startGrading_cases with ⟨i, rest, hf, hs, he⟩ | ⟨hn, he⟩
    · refine .inl ⟨i, rest, hq, hf, ?_, he⟩
      simpa [State.withdrawing, hq] using hs
    · refine .inr ⟨.inr (hn.imp id fun hn => ?_), he⟩
      simpa [State.withdrawing, hq] using hn
  · next hq => exact .inr ⟨.inl hq, rfl⟩

/-- Settles O8, by the two cases of a withdrawal. -/
theorem withdrawalSealsCompletedContexts : Obligations.WithdrawalSealsCompletedContexts := by
  intro s p
  dsimp only
  have hloses := fun i => (s.context i).losesPort_iff p
  have hseals := fun i => (s.context i).sealsWithout_iff p
  simp only [← hloses, ← hseals]
  refine ⟨s.sealedBy p, s.withdraw p, s.sealedBy_pairwise p, s.mem_sealedBy p, s.withdraw_frame p, ?_⟩
  have hkeeps : ∀ i, ¬ (s.context i).losesPort p = true → (s.context i).withdrawn p = s.context i := fun i h => if_neg h
  have hshrinks : ∀ i, (s.context i).losesPort p = true → ¬ (s.context i).sealsWithout p = true →
      (s.context i).withdrawn p = { s.context i with expected := portErase p (s.context i).expected } := by
    intro i hl hs
    rw [Context.withdrawn, if_pos hl, if_neg hs, ← ((hloses i).mp hl).1]
  have hcompletes : ∀ i, (s.context i).sealsWithout p = true →
      (s.context i).withdrawn p = { s.context i with
        expected := portErase p (s.context i).expected, state := .queued } := by
    intro i hs
    rw [Context.withdrawn, if_pos ((hseals i).mp hs).1, if_pos hs]
  rcases s.withdraw_cases p with ⟨i, rest, hq, hf, hs, he⟩ | ⟨hn, he⟩
  · have hi : (s.context i).sealsWithout p = true := (s.mem_sealedBy p i).mp (by rw [hs]; exact List.mem_cons_self)
    have hl := ((hseals i).mp hi).1
    have hnot : i ∉ rest := (List.nodup_cons.mp (hs ▸ s.sealedBy_nodup p)).1
    have hctx : ∀ j, (s.withdraw p).context j =
        if i = j then { (s.context i).withdrawn p with state := .grading } else (s.context j).withdrawn p := by
      intro j
      rw [he, State.context_modContext]
      simp only [← State.withdrawing_context]
      rfl
    have hqueue : (s.withdraw p).gradingQueue = rest := by rw [he]; rfl
    refine ⟨fun j hj => ?_, fun j hj hjs => ?_, fun j hj => ?_, fun _ _ => ⟨by rw [hqueue, hs]; rfl, by rw [he, hs]; rfl⟩,
      fun h => absurd hq (h.resolve_right (not_not_intro hf))⟩
    · rw [hctx, if_neg (by rintro rfl; exact hj hl), hkeeps j hj]
    · rw [hctx, if_neg (by rintro rfl; exact hjs hi), hshrinks j hj hjs]
    · rw [hctx, hqueue, hcompletes j hj]
      by_cases hij : i = j
      · subst hij
        rw [if_pos rfl, if_neg hnot, hcompletes i hi]
      · have hmem : j ∈ rest := (List.mem_cons.mp (hs ▸ (s.mem_sealedBy p j).mpr hj)).resolve_left (Ne.symm hij)
        rw [if_neg hij, if_pos hmem]
  · have hctx : ∀ j, (s.withdraw p).context j = (s.context j).withdrawn p := fun j => by rw [he, State.withdrawing_context]
    have hqueue : (s.withdraw p).gradingQueue = s.gradingQueue ++ s.sealedBy p := by rw [he]; rfl
    have hflight : (s.withdraw p).inFlight = s.inFlight := by rw [he]; rfl
    refine ⟨fun j hj => by rw [hctx, hkeeps j hj], fun j hj hjs => by rw [hctx, hshrinks j hj hjs], fun j hj => ?_,
      fun hq hf => ?_, fun _ => ⟨hqueue, hflight⟩⟩
    · have hmem : j ∈ s.gradingQueue ++ s.sealedBy p := List.mem_append_right _ ((s.mem_sealedBy p j).mpr hj)
      rw [hctx, hqueue, if_pos hmem, hcompletes j hj]
    · have hnone : s.sealedBy p = [] := (hn.resolve_left (not_not_intro hq)).resolve_left (not_not_intro hf)
      rw [hqueue, hflight, hq, hf, hnone]
      exact ⟨rfl, rfl⟩

/-! ### Gradings and waiting writes -/

theorem State.waitingWrite_execution {s : State} {tag code : Byte} {params : List Byte}
    (h : s.command = some { tag := tag, code := code, params := params, phase := .execution }) :
    s.waitingWrite = (parseTableChange code params).map
      (fun w => ({ tag := tag, code := code, params := params, phase := .execution }, w)) := by
  simp only [State.waitingWrite, h]
  rfl

/-- A table write changes no context, no queue and no grading in flight. -/
theorem State.writeTable_frame (s : State) (w : TableChange) : s.writeTable w = { s with
    weights := (s.writeTable w).weights, profiles := (s.writeTable w).profiles, reasons := (s.writeTable w).reasons,
    windows := (s.writeTable w).windows, defaults := (s.writeTable w).defaults } := by
  cases w <;> rfl

/-- The waiting write, taken with no grading in flight, and the grading that may start after it (R54). -/
theorem execTableWrite_taken {s : State} {tag code : Byte} {params : List Byte} {w : TableChange} (hf : s.inFlight = none)
    (hc : s.command = some { tag := tag, code := code, params := params, phase := .execution })
    (hw : parseTableChange code params = some w) :
    exec .tableWrite s = .next (((s.writeTable w).finish tag code params .ok w.payload).startGrading) := by
  have hwait := State.waitingWrite_execution hc
  rw [hw, Option.map_some] at hwait
  simp only [exec, execTableWrite, State.takeWrite, hwait, hf]
  rfl

/-- A write command is `writeAct` on what its bytes parse to. -/
theorem exec_write {tag code : Byte} {params : List Byte} {c : Instr}
    (hc : c ∈ [Instr.writeWeights tag params, .writeProfile tag params, .writeReasons tag params, .writeWindow tag params,
      .writeDefault tag params]) (hm : managementOf c = some (tag, code, params)) (s : State) :
    exec c s = .next (s.runCommand tag code params (writeAct (parseTableChange code params))) := by
  simp only [List.mem_cons, List.not_mem_nil, or_false] at hc
  rcases hc with rfl | rfl | rfl | rfl | rfl <;> cases hm <;> rfl

/-- Settles O16: start, waiting write, and what counts as one. -/
theorem gradingAndWaitingWriteAreTaken : Obligations.GradingAndWaitingWriteAreTaken := by
  refine ⟨fun s i rest hf hq => ?_, fun s h => ?_, fun s tag code params w hf hc hw => execTableWrite_taken hf hc hw,
    fun s tag code params c hc hm hfits hcmd => ?_, fun s h => ?_⟩
  · have hstart : s.startGrading = { s with
        gradingQueue := rest
        inFlight := some { context := i, classes := s.detectedClasses } }.modContext i
          (fun c => { c with state := .grading }) := by
      simp only [State.startGrading, hf, hq]
    exact ⟨s.detectedClasses, s.detectedClasses_get, congrArg Host.Outcome.next hstart, hstart⟩
  · rcases s.startGrading_cases with ⟨i, rest, hf, hq, -⟩ | ⟨-, he⟩
    · simp [hf, hq] at h
    · exact he
  · obtain ⟨w, hw⟩ := Option.isSome_iff_exists.mp ((parseTableChange_isSome code params).mpr hfits)
    refine ⟨by rw [State.waitingWrite_execution hcmd, hw]; simp, fun hf => ?_⟩
    refine ⟨_, exec_write hc hm _, ?_⟩
    rw [execTableWrite_taken hf hcmd hw, State.runCommand_done (r := .ok) (pl := w.payload)
      (t := { s with command := none }.writeTable w) rfl (by simp only [writeAct, hw, hf]),
      s.writeTable_command none w]
    rfl
  · unfold State.waitingWrite
    split
    · next c hc =>
      split
      · next hp =>
        rw [Option.map_eq_none_iff, ← Option.not_isSome_iff_eq_none, parseTableChange_isSome]
        exact h c hc hp
      · rfl
    · rfl

/-- With no write waiting and the command that waits for the abandon ended, the next grading starts (R46, R166). -/
theorem State.waitingWrite_finish (s : State) (tag code : Byte) (ps : List Byte) (r : ResultCode) (pl : List Byte) :
    (s.finish tag code ps r pl).waitingWrite = none := by
  unfold State.waitingWrite State.finish
  dsimp only
  split
  · next c hc =>
    split at hc
    · cases hc
    · cases hc
      rfl
  · rfl

/-- What a completion writes into its context, as R43 lists it. -/
theorem State.gradedContext_eq (s : State) (classes : Vector StationClass 8) (c : Context) :
    s.gradedContext classes c =
      let p := if s.profiles[c.category].valid then s.profiles[c.category] else {}
      let score := scoreOf p s.reasons[c.reason].toInt c
      let causes := causesOf p classes c
      let grade := gradeFor p causes score.total
      { c with
        state := .graded, score := score, causes := causes, grade := some grade, target := some (s.chooseTarget grade c),
        ageUnknown := (c.days.val == 1023), weightUnchecked := (c.measured == none || c.catalogue == 0) } := by
  have hage : ∀ d : Fin 1024, ageUnknownFlag d = (d.val == 1023) := fun d =>
    Bool.eq_iff_iff.mpr ((beq_iff_eq.trans Fin.ext_iff).trans beq_iff_eq.symm)
  have hw : weightUncheckedFlag c.measured c.catalogue = (c.measured == none || c.catalogue == 0) := by
    unfold weightUncheckedFlag
    cases c.measured <;> rfl
  unfold State.gradedContext
  rw [hage, hw]
  rfl

/-- Settles O17: what is written, then the hand-over; of a marked context the close and the end of its ABANDON_TRAY. -/
theorem gradingCompletionWritesOrAbandons : Obligations.GradingCompletionWritesOrAbandons := by
  refine ⟨fun s g hf hmark => ?_, fun s g tag params hf hmark hcmd => ?_⟩
  · have hctx : ({ s with inFlight := none } : State).completeContext g.context g.classes =
        { s with inFlight := none }.modContext g.context (fun _ => s.gradedContext g.classes (s.context g.context)) := by
      refine (if_neg ?_).trans (State.modContext_congr _ _ rfl)
      show ¬ (s.context g.context).abandonMark = true
      simp [hmark]
    have hexec : exec .gradingCompletion s = .next ({ s with inFlight := none }.modContext g.context
        (fun _ => s.gradedContext g.classes (s.context g.context))).handOver := by
      simp only [exec, execGradingCompletion, hf, hctx]
    rw [State.gradedContext_eq] at hexec
    dsimp only at hexec ⊢
    generalize ht : State.modContext { s with inFlight := none } g.context _ = t at hexec ⊢
    have hwait : t.waitingWrite = s.waitingWrite := by rw [← ht]; rfl
    have hqueue : t.gradingQueue = s.gradingQueue := by rw [← ht]; rfl
    have hidle : t.inFlight = none := by rw [← ht]; rfl
    rw [hexec]
    refine ⟨fun hn => ?_, fun cmd w hw hq => ?_, fun hw hq => ?_, fun hw hq => ?_⟩
    · simp [State.handOver, hwait, hn]
    · simp [State.handOver, hwait, hw, hqueue, hq, State.takeWrite]
    · obtain ⟨⟨cmd, w⟩, hcw⟩ := Option.ne_none_iff_exists'.mp hw
      have hq' : (t.takeWrite).gradingQueue = [] := by
        simp only [State.takeWrite, hwait, hcw]
        rw [State.finish_frame, State.writeTable_frame]
        exact hqueue.trans hq
      have hstay : t.takeWrite.startGrading = t.takeWrite := by
        rcases t.takeWrite.startGrading_cases with ⟨i, rest, -, hr, -⟩ | ⟨-, he⟩
        · simp [hq'] at hr
        · exact he
      simp [State.handOver, exec, execTableWrite, hwait, hcw, hqueue, hq, hidle, hstay]
    · obtain ⟨cw, hcw⟩ := Option.ne_none_iff_exists'.mp hw
      simp [State.handOver, hwait, hcw, hqueue, hq]
  · have hcmd' : (State.closeContext { s with inFlight := none } g.context .abandoned none).command =
        some { tag := tag, code := 0x0C, params := params, phase := .execution } := by
      rw [State.closeContext_frame]
      exact hcmd
    have hctx : ({ s with inFlight := none } : State).completeContext g.context g.classes =
        (State.closeContext { s with inFlight := none } g.context .abandoned none).finish tag 0x0C params .ok
          (bytes2 (s.context g.context).tray.val) := by
      refine (if_pos hmark).trans ?_
      simp only [hcmd']
      rfl
    simp only [exec, execGradingCompletion, hf, hctx, State.handOver, State.waitingWrite_finish]
    rfl

end Sys2Proof.Machine
end

section
/-! Observations that join a queue, requests for ungraded contexts, abandons, and the two resets (R22 to R26, R86, R140, R156, R182). -/

namespace Sys2Proof.Machine

/-! ### Observations, requests, abandons -/

/-- A queued station frame joins its port's queue by the port's state (R131, R140). -/
theorem exec_queued {c : Instr} {p : StationPort} {r : ObsRecord} (h : queuedOf c = some (p, r)) (s : State) :
    exec c s = .next (s.stationFrame p (s.joinQueue p r)) := by
  cases c <;> simp only [queuedOf, Option.some.injEq, Prod.mk.injEq, reduceCtorEq] at h
  all_goals
    obtain ⟨rfl, rfl⟩ := h
    rfl

/-- In every state but DETACHED and LISTENING a station frame is taken as its row says (R131). -/
theorem State.stationFrame_taken {s : State} {p : StationPort} (hd : (s.port p).state ≠ .detached)
    (hl : (s.port p).state ≠ .listening) (taken : State) : s.stationFrame p taken = taken := by
  unfold State.stationFrame
  split <;> simp_all

@[simp] theorem State.offerEvent_lookup (s : State) (a : Advisory) (t : Tray) : (s.offerEvent a).lookup t = s.lookup t := by
  rw [State.offerEvent_frame]; rfl

@[simp] theorem State.offerEvent_context (s : State) (a : Advisory) (i : ContextIndex) :
    (s.offerEvent a).context i = s.context i := by
  rw [State.offerEvent_frame]; rfl

/-- Settles O28: the join with its HOLD test, and the overrun with the lost port. -/
theorem observationJoinsOrOverruns : Obligations.ObservationJoinsOrOverruns := by
  intro c s p r hc hd hl
  dsimp only
  rw [exec_queued hc, State.stationFrame_taken hd hl]
  refine ⟨fun hroom => ?_, fun hfull => ?_⟩
  · have hjoin : s.joinQueue p r = (s.modPort p (fun P => { P with inbound := P.inbound ++ [r] })).holdTest p := if_pos hroom
    rw [hjoin]
    refine ⟨fun hh hthr => congrArg Host.Outcome.next (if_pos ?_), fun h => congrArg Host.Outcome.next (if_neg ?_)⟩
    · simp [hh, hthr]
    · rcases h with hh | hthr
      · simp [hh]
      · simp [Nat.not_le.mpr hthr]
  · have hover : s.joinQueue p r = (s.offerEvent (.queueOverrun p r.tray r.body.kind)).losePort p r.tray :=
      if_neg (Nat.not_lt.mpr hfull)
    rw [hover, State.losePort, State.offerEvent_lookup]
    refine ⟨fun i hmap hopen hexp => ⟨portInsert p (s.context i).lost, fun q => portIn_portInsert p q _, ?_⟩, fun h => ?_⟩
    · rw [hmap]
      exact congrArg Host.Outcome.next (State.modContext_congr _ i (by simp [hopen, hexp]))
    · cases hmap : s.lookup r.tray with
      | none => rfl
      | some i =>
        refine congrArg Host.Outcome.next ((State.modContext_congr _ i (g := fun c => c) ?_).trans (State.modContext_same _ i))
        rw [State.offerEvent_context]
        refine if_neg fun ⟨hopen, hexp⟩ => ?_
        rcases h i hmap with hn | hn
        · exact hn hopen
        · simp [hexp] at hn

/-- A recirculation of a live context (R5, R76). -/
theorem State.recirculate_eq (s : State) (t : Tray) (i : ContextIndex) :
    s.recirculate t (some i) = s.recirculated t i := by
  have hlap : ∀ n, min Config.lapMax (n + 1) = if n < 15 then n + 1 else 15 := by
    intro n
    unfold Config.lapMax
    split <;> omega
  simp only [State.recirculate, State.forContext, State.countLap, hlap]
  rfl

/-- A request for a tray with no order outstanding is answered by the state of its context (R83). -/
theorem exec_decisionReq {s : State} {t : Tray} (hup : s.sorterLink = .up) (ho : ∀ o ∈ s.orders, o.tray ≠ t) :
    exec (.decisionReq t) s = .next (s.answerRequest t) := by
  have hnone : s.orderFor t = none := by
    unfold State.orderFor
    rw [List.find?_eq_none]
    intro o h
    simpa using ho o h
  simp only [exec, execDecisionReq, State.sorterFrame, if_pos hup, State.impliedMiss, hnone]

/-- Settles O37. -/
theorem requestRecirculatesUngradedContext : Obligations.RequestRecirculatesUngradedContext := by
  intro s t i hup ho hmap
  rw [exec_decisionReq hup ho]
  refine ⟨fun hopen => ?_, fun h => ?_⟩
  · simp only [State.answerRequest, hmap, hopen, State.recirculate_eq, s.seal_eq_withSealed i hopen]
  · rcases h with h | h <;> simp only [State.answerRequest, hmap, h, State.recirculate_eq]

/-- ABANDON_TRAY's parameters name tray t (R176). -/
theorem parseTray_eq {hi lo : Byte} {t : Tray} (h : (hi ++ lo).toNat = t.val) : parseTray [hi, lo] = some t := by
  have hlt : (be16 hi lo).toNat < 1024 := by
    rw [be16, h]
    exact t.isLt
  simp only [parseTray, trayOf, dif_pos hlt]
  exact congrArg some (Fin.ext h)

/-- The payload echoes the two bytes of the tray. -/
theorem bytes2_tray {hi lo : Byte} {t : Tray} (h : (hi ++ lo).toNat = t.val) : bytes2 t.val = [hi, lo] := by
  have hv : t.val = hi.toNat * 256 + lo.toNat := by
    rw [← h]
    exact be16_toNat hi lo
  have := lo.isLt
  have := hi.isLt
  have hhi : byteOf (t.val / 256) = hi := BitVec.eq_of_toNat_eq (by simp [byteOf]; omega)
  have hlo : byteOf t.val = lo := BitVec.eq_of_toNat_eq (by simp [byteOf]; omega)
  rw [bytes2, hhi, hlo]

theorem State.settleRelease_context (s : State) (o : DivertOrder) (i : ContextIndex) :
    (s.settleRelease o).context i = s.context i := by
  have h := s.settleRelease_moved o
  unfold TotesMoved at h
  rw [h]
  rfl

/-- Settles O45, by the state of the tray's context. -/
theorem abandonTrayActsByContextState : Obligations.AbandonTrayActsByContextState := by
  intro s tag hi lo t hc ht
  have hexec : exec (.abandonTray tag [hi, lo]) s = .next (s.runCommand tag 0x0C [hi, lo] (abandonTrayAct [hi, lo])) := rfl
  have hpay := bytes2_tray ht
  have hparse := parseTray_eq ht
  rw [hexec]
  refine ⟨fun hmap => ?_, fun i hmap h => ?_, fun i hmap h => ?_, fun i o hmap h ho hoc huniq => ?_⟩
  · exact congrArg Host.Outcome.next (State.runCommand_done hc (by simp only [abandonTrayAct, hparse, hmap, refuse]))
  · refine congrArg Host.Outcome.next (State.runCommand_done hc ?_)
    rcases h with h | h | h <;> simp only [abandonTrayAct, hparse, hmap, h, hpay]
  · exact congrArg Host.Outcome.next (State.runCommand_wait hc (by simp only [abandonTrayAct, hparse, hmap, h]))
  · refine congrArg Host.Outcome.next (State.runCommand_done hc ?_)
    have hfind : s.orders.find? (fun o : DivertOrder => o.context = some i) = some o := by
      cases hf : s.orders.find? (fun o : DivertOrder => o.context = some i) with
      | none =>
        have := List.find?_eq_none.mp hf o ho
        simp [hoc] at this
      | some o' => rw [huniq o' (List.mem_of_find?_eq_some hf) (by simpa using List.find?_some hf)]
    have hcancel : s.cancelOrder i = (s.settleRelease o).modContext i (fun c => { c with state := .graded }) := by
      rw [State.cancelOrder, hfind]
      refine State.modContext_congr _ i (if_pos ?_)
      rw [State.settleRelease_context, h]
    simp only [abandonTrayAct, hparse, hmap, h, hpay, hcancel]

/-! ### Reset -/

@[simp] theorem State.reset_context (i : ContextIndex) : State.reset.context i = {} := Vector.getElem_replicate ..
@[simp] theorem State.reset_lookup (t : Tray) : State.reset.lookup t = none := Vector.getElem_replicate ..
@[simp] theorem State.reset_port (p : StationPort) : State.reset.port p = {} := Vector.getElem_replicate ..
@[simp] theorem State.reset_chute (k : Chute) : State.reset.chute k = {} := Vector.getElem_replicate ..
@[simp] theorem State.reset_descriptor (d : DescriptorIndex) : State.reset.descriptor d = {} := Vector.getElem_replicate ..

theorem State.reset_atPowerOn : AtPowerOn State.reset where
  contexts i := by
    rw [State.reset_context]
    exact ⟨rfl, ⟨rfl, rfl⟩, ⟨rfl, rfl, rfl⟩, ⟨rfl, rfl, rfl, rfl⟩, rfl, rfl, rfl, rfl, rfl, ⟨rfl, rfl, rfl⟩, rfl, rfl, rfl, rfl⟩
  trayMap := State.reset_lookup
  gradingQueue := rfl
  stampCounter := rfl
  inFlight := rfl
  weights k c := by simp [State.reset]
  profiles c := by simp [State.reset]
  reasons r := by simp [State.reset]
  windows g i := by simp [State.reset]
  defaults g := by simp [State.reset]
  orders := rfl
  chutes k := State.reset_chute k
  descriptors d := State.reset_descriptor d
  ports p := State.reset_port p
  links p := by cases p <;> simp [State.reset, State.link]
  waiting := ⟨fun p => by simp [State.reset], rfl, rfl, rfl⟩
  report := ⟨rfl, fun k => by simp [State.reset, State.route], rfl, rfl⟩
  settings := rfl
  command := rfl

/-- Settles O3: the command writes the reset state with the waiting commands kept. -/
theorem powerOnResetLeavesEveryBlockAtPowerOn : Obligations.PowerOnResetLeavesEveryBlockAtPowerOn :=
  ⟨State.reset_atPowerOn, rfl, fun s => ⟨{ State.reset with pending := s.pending }, rfl,
    { State.reset_atPowerOn with }, rfl⟩⟩

/-- Settles O48: the queue is empty after the reset, so the result enters it first. -/
theorem softResetClearsWorkingState : Obligations.SoftResetClearsWorkingState := by
  intro s tag hc
  have hexec : exec (.softReset tag []) s = .next (s.softReset.finish tag 0x13 [] .ok []) :=
    congrArg Host.Outcome.next (State.runCommand_done hc rfl)
  have hroom : s.softReset.finish tag 0x13 [] .ok [] =
      { s.softReset with
        outbound := [.mgmt { tag := tag, code := 0x13, result := .ok, payload := [] }], command := none } := rfl
  refine ⟨_, State.reset, hexec, State.reset_atPowerOn, ?_, fun p => ?_, fun p => ?_⟩
  · have hsending : s.sending = if s.lineFinishing ≠ none then s.lineFinishing
        else if s.lineLink = .up then s.outbound.head? else none := by
      unfold State.sending
      cases s.lineFinishing <;> simp
    rw [hroom, ← hsending]
    rfl
  · rw [hroom]
    exact vecOf_getElem ..
  · rw [hroom]
    exact vecMap_getElem ..

/-- The FREE context holds values in their ranges. -/
theorem contextRanges_free : ContextRanges {} where
  laps := by decide
  list o h := absurd h List.not_mem_nil
  measured m h := absurd h.symm (Option.some_ne_none m)
  catalogue := by decide
  score := by decide
  target ct h := absurd h.symm (Option.some_ne_none ct)

theorem targetSound_blank : TargetSound {} := by
  unfold TargetSound
  decide

theorem windowSound_blank : WindowSound {} := ⟨by decide, by decide, by decide, targetSound_blank, fun _ => rfl⟩

theorem profileSound_blank : ProfileSound {} := by
  unfold ProfileSound
  decide

theorem settingsSound_blank : SettingsSound {} := by
  unfold SettingsSound
  decide

theorem portSound_blank : PortSound {} := by
  unfold PortSound
  decide

/-- After reset no descriptor is in use and no chute has a sequence. -/
theorem State.reset_totesSound : TotesSound State.reset where
  chutes k := by
    rw [State.reset_chute]
    unfold ChuteSound
    decide
  sequenceNodup k := by
    rw [State.reset_chute]
    exact List.nodup_nil
  sequenceDisjoint k j d _ h := by
    rw [State.reset_chute] at h
    exact absurd h List.not_mem_nil
  queued d := by simp
  active d := by simp
  closed d := by simp [show State.reset.waitingTotes = [] from rfl]
  waitingNodup := List.nodup_nil
  orderActive o h := absurd h List.not_mem_nil
  tally k d h := by simp at h
  twoOrders k := Nat.zero_le _
  closingHeld k h := by simp at h
  oneOrder := List.nodup_nil
  orderContext o h := absurd h List.not_mem_nil
  orderedNamed i h := by simp at h
  links k n h := by simp [ChuteRecord.sequence] at h
  free d _ := State.reset_descriptor d
  fresh d h := by simp at h
  closeCause d := by simp
  ranges d h := by simp at h

theorem State.reset_contextsSound : ContextsSound State.reset := by
  refine ⟨⟨fun t i => ?_, State.reset_lookup _⟩, ⟨List.nodup_nil, fun i => ?_⟩, fun i => ?_⟩
  · simp [ContextState.live]
  · simp [State.reset_context, show State.reset.gradingQueue = [] from rfl]
  · simp [State.reset_context, show State.reset.inFlight = none from rfl]

theorem State.reset_tablesSound : TablesSound State.reset := by
  refine ⟨fun c => ?_, fun k c => ?_, fun g i => ?_, fun g => ?_, settingsSound_blank⟩
  · rw [State.reset_atPowerOn.profiles]
    exact profileSound_blank
  · rw [State.reset_atPowerOn.weights]
    exact Nat.zero_le _
  · rw [State.reset_atPowerOn.windows]
    exact windowSound_blank
  · rw [State.reset_atPowerOn.defaults]
    exact targetSound_blank

/-- Settles O60, law by law. -/
theorem powerOnResetIsSound : Obligations.PowerOnResetIsSound := by
  refine ⟨⟨by decide, ?_, by decide⟩, State.reset_contextsSound, State.reset_totesSound, fun i => ?_,
    ⟨fun p => ?_, fun p => ?_, by decide⟩, ⟨fun i => ?_, fun r h => absurd h List.not_mem_nil, fun o h => absurd h List.not_mem_nil⟩,
    fun p => ?_, fun i p h => ?_, State.reset_tablesSound⟩
  · rintro (h | h | ⟨i, h⟩)
    · cases h
    · exact absurd rfl h
    · simp at h
  · rw [State.reset_context]
    exact ⟨⟨Nat.zero_le _, List.nodup_nil⟩, fun p h => h⟩
  · rw [State.reset_port]
    exact Nat.zero_le _
  · rw [State.reset_atPowerOn.waiting.1]
    exact Nat.zero_le _
  · rw [State.reset_context]
    exact contextRanges_free
  · rw [State.reset_port]
    exact portSound_blank
  · simp at h

end Sys2Proof.Machine
end

section
/-! What one move of a step can do: the relation Move, whose runs every step is, and the moves of the tote chain unit, the report unit and the engine, which no law of this part reads. -/

namespace Sys2Proof.Machine

/-! ### Moves of the tote chain unit, the report unit, the engine and the links -/

/-- From s to t the chutes and totes, the links, the report unit and the command in progress alone have moved. -/
def OthersMoved (s t : State) : Prop := t = { s with
  chutes := t.chutes, descriptors := t.descriptors, waitingTotes := t.waitingTotes, stationLinks := t.stationLinks,
  lineLink := t.lineLink, sorterLink := t.sorterLink, lineFinishing := t.lineFinishing, outbound := t.outbound,
  routes := t.routes, attention := t.attention, dropped := t.dropped, command := t.command, pending := t.pending }

/-- The frames on their way to the line controller (R153, R155). -/
def State.outgoing (s : State) : List OutFrame := s.outbound ++ s.lineFinishing.toList

/-- From s to t those alone have moved, and no item result has joined those on their way. -/
def Aside (s t : State) : Prop := OthersMoved s t ∧ ∀ r, .item r ∈ t.outgoing → .item r ∈ s.outgoing

theorem Aside.refl (s : State) : Aside s s := ⟨rfl, fun _ h => h⟩

theorem Aside.trans {s t u : State} (h : Aside s t) (h' : Aside t u) : Aside s u := by
  obtain ⟨he, hi⟩ := h
  obtain ⟨he', hi'⟩ := h'
  refine ⟨?_, fun r hr => hi r (hi' r hr)⟩
  unfold OthersMoved at *
  rw [he'] at ⊢
  rw [he]

/-- A frame other than an item result joins the outbound queue. -/
theorem Aside.push {s t : State} {f : OutFrame} (hf : ∀ r, f ≠ .item r) (ho : t.outbound = s.outbound ++ [f])
    (hl : t.lineFinishing = s.lineFinishing) (he : OthersMoved s t) : Aside s t := by
  refine ⟨he, fun r hr => ?_⟩
  simp only [State.outgoing, ho, hl, List.mem_append, List.mem_singleton] at hr ⊢
  rcases hr with (h | h) | h
  · exact .inl h
  · exact absurd h.symm (hf r)
  · exact .inr h

/-- Nothing joins the outbound queue. -/
theorem Aside.still {s t : State} (ho : t.outbound = s.outbound) (hl : t.lineFinishing = s.lineFinishing)
    (he : OthersMoved s t) : Aside s t :=
  ⟨he, fun r hr => by rwa [State.outgoing, ho, hl] at hr⟩

theorem Aside.offerEvent (s : State) (a : Advisory) : Aside s (s.offerEvent a) := by
  have he : OthersMoved s (s.offerEvent a) := by
    have h := s.offerEvent_frame a
    unfold OthersMoved
    rw [h]
  have hl : (s.offerEvent a).lineFinishing = s.lineFinishing := by rw [State.offerEvent_frame]
  rcases s.offerEvent_outbound a with h | ⟨_, n, h⟩
  · exact .still h hl he
  · exact .push (fun r => OutFrame.noConfusion) h hl he

theorem Aside.offerBusy (s : State) (tag code : Byte) : Aside s (s.offerBusy tag code) := by
  unfold State.offerBusy
  split
  · exact .push (fun r => OutFrame.noConfusion) rfl rfl rfl
  · exact .still rfl rfl rfl

theorem Aside.finish (s : State) (tag code : Byte) (ps : List Byte) (r : ResultCode) (pl : List Byte) :
    Aside s (s.finish tag code ps r pl) := by
  unfold State.finish
  dsimp only
  split
  · exact .push (fun r => OutFrame.noConfusion) rfl rfl rfl
  · exact .still rfl rfl rfl

theorem Aside.modChute (s : State) (k : Chute) (f : ChuteRecord → ChuteRecord) : Aside s (s.modChute k f) := .still rfl rfl rfl

theorem Aside.modDescriptor (s : State) (d : DescriptorIndex) (f : Descriptor → Descriptor) :
    Aside s (s.modDescriptor d f) := .still rfl rfl rfl

theorem Aside.offerTote (s : State) (w : WaitingTote) : Aside s (s.offerTote w) := by
  rcases s.offerTote_cases w with ⟨_, h⟩ | ⟨_, h⟩ <;> rw [h]
  · exact .push (fun r => OutFrame.noConfusion) rfl rfl rfl
  · exact .still rfl rfl rfl

theorem Aside.enterSwapping (s : State) (k : Chute) : Aside s (s.enterSwapping k) := by
  unfold State.enterSwapping
  split
  · exact .refl s
  · exact (Aside.modChute s _ _).trans (.offerEvent _ _)

theorem Aside.closeDescriptor (s : State) (k : Chute) (d : DescriptorIndex) (c : CloseCause) :
    Aside s (s.closeDescriptor k d c) :=
  (Aside.modDescriptor s _ _).trans (.offerTote _ _)

theorem Aside.closeTote (s : State) (k : Chute) (c : CloseCause) : Aside s (s.closeTote k c) := by
  unfold State.closeTote
  dsimp only
  split
  · exact .refl s
  · have h := fun d => (Aside.closeDescriptor s k d c).trans (.modChute _ k (fun c => { c with active := none, pendingCause := none }))
    split
    · exact (h _).trans (.enterSwapping _ _)
    · exact ((h _).trans (.modChute _ _ _)).trans (.offerEvent _ _)

theorem Aside.completeClosing (s : State) (k : Chute) : Aside s (s.completeClosing k) := by
  unfold State.completeClosing
  split
  · split
    · exact .closeTote s _ _
    · exact .refl s
  · exact .refl s

theorem Aside.countTest (s : State) (k : Chute) (d : DescriptorIndex) : Aside s (s.countTest k d) := by
  unfold State.countTest
  split
  · split
    · exact .closeTote s _ _
    · exact .closeTote s _ _
    · exact .refl s
  · exact .refl s

theorem Aside.stray (s : State) (k : Chute) : Aside s (s.stray k).1 := by
  unfold State.stray
  split
  · next d _ => exact Aside.modDescriptor s d (fun D => { D with strays := min Config.strayMax (D.strays + 1) })
  · exact .refl s

theorem Aside.freeAll (s : State) (ds : List DescriptorIndex) : Aside s (s.freeAll ds) := by
  unfold State.freeAll
  induction ds generalizing s with
  | nil => exact .refl s
  | cons d ds ih => exact (Aside.modDescriptor s d _).trans (ih _)

theorem Aside.clearChain (s : State) (k : Chute) : Aside s (s.clearChain k) := by
  unfold State.clearChain
  have hclose : Aside s (match (s.chute k).active with | some d => s.closeDescriptor k d .cleared | none => s) := by
    split
    · exact .closeDescriptor s _ _ _
    · exact .refl s
  have h := (hclose.trans (.freeAll _ ((s.chute k).pending.toList ++ (s.chute k).chain))).trans
    (.modChute _ k (fun c => { c with state := .unconfigured, active := none, pending := none, chain := [], pendingCause := none }))
  dsimp only
  split
  · exact h
  · exact h.trans (.offerEvent _ _)

theorem Aside.fillDescriptors (s : State) (l : List (DescriptorIndex × ToteEntry)) : Aside s (s.fillDescriptors l) := by
  induction l generalizing s with
  | nil => exact .refl s
  | cons de rest ih => exact (Aside.modDescriptor s de.1 _).trans (ih _)

theorem Aside.linkLast (s : State) (last first : Option DescriptorIndex) : Aside s (s.linkLast last first) := by
  unfold State.linkLast
  split
  · exact .modDescriptor s _ _
  · exact .refl s

theorem Aside.callClose (s : State) (k : Chute) (c : CloseCause) : Aside s (s.callClose k c) := by
  unfold State.callClose
  split
  · exact .closeTote s _ _
  · exact (Aside.modChute s _ _).trans (.offerEvent _ _)

theorem Aside.toteInPlace (s : State) (k : Chute) (x : BitVec 16) : Aside s (toteInPlace k x s) := by
  unfold Machine.toteInPlace
  split
  · split
    · exact ((Aside.modDescriptor s _ _).trans (.modChute _ _ _)).trans (.offerEvent _ _)
    · exact .offerEvent s _
  · exact .refl s

/-! ### The moves that a step is made of -/

/-- What a change of a port record keeps (R125, R126, R140, R141). -/
structure PortKept (P Q : PortRecord) : Prop where
  sound : PortSound P → PortSound Q
  queue : Q.inbound.length ≤ max 16 P.inbound.length

/-- What a change of one context in its slot keeps, on the tables of s. -/
structure ContextKept (s : State) (c c' : Context) : Prop where
  tray : c'.tray = c.tray
  state : c'.state = c.state ∨ c.state = .graded ∧ c'.state = .ordered ∨ c.state = .ordered ∧ c'.state = .graded
  expected : c'.expected = c.expected
  reported : ∀ p, portIn p c.reported = true → portIn p c'.reported = true
  reports : ∀ p, portIn p c'.reported = true → portIn p c.reported = true ∨ portIn p c.expected = true
  list : ListSound c → ListSound c'
  ranges : TablesSound s → ContextRanges c → ContextRanges c'

/-- An order as R82 makes it in s: a context's item weight or the default weight, and the full time. -/
def State.issues (s : State) (o : DivertOrder) : Prop :=
  (o.grams = s.settings.defaultWeight ∨ ∃ i, o.grams = s.itemWeight (s.context i)) ∧
  o.remaining = s.settings.orderTimeout * 1000

/-- A context that a request may close: live, or named by the tray map, and not in GRADING (R4). -/
def State.closable (s : State) (i : ContextIndex) : Prop :=
  (s.context i).state ≠ .grading ∧ ((s.context i).state.live = true ∨ ∃ t, s.lookup t = some i)

/-- What one move of a step can do. A step is a run of moves, and a law that every move keeps is kept by every step. -/
inductive Move (s : State) : State → Prop
  | aside {t : State} (h : Aside s t) : Move s t
  /-- Orders leave, lose time or are issued (R77, R82, R96). -/
  | orders {t : State} (frame : t = { s with orders := t.orders })
      (h : ∀ o ∈ t.orders, (∃ o' ∈ s.orders, o.grams = o'.grams ∧ o.remaining ≤ o'.remaining) ∨ s.issues o) : Move s t
  /-- Frames wait at the stations and the sorter port, are sent or discarded (R152). -/
  | sends {t : State} (frame : t = { s with stationTx := t.stationTx, sorterTx := t.sorterTx })
      (station : ∀ p : StationPort, t.stationTx[p].length ≤ max 8 s.stationTx[p].length)
      (sorter : t.sorterTx.length ≤ max 64 s.sorterTx.length) : Move s t
  /-- Port records change, and none leaves READY and PAUSING (R139). -/
  | ports {t : State} (frame : t = { s with ports := t.ports }) (kept : ∀ p, PortKept (s.port p) (t.port p))
      (expected : ∀ p, (s.port p).state = .ready ∨ (s.port p).state = .pausing →
        (t.port p).state = .ready ∨ (t.port p).state = .pausing) : Move s t
  /-- A port changes and is withdrawn (R21, R139). -/
  | withdrawn (p : StationPort) (f : PortRecord → PortRecord) (kept : PortKept (s.port p) (f (s.port p))) :
      Move s ((s.modPort p f).withdraw p)
  | context (i : ContextIndex) (f : Context → Context) (kept : ContextKept s (s.context i) (f (s.context i))) :
      Move s (s.modContext i f)
  | seals (i : ContextIndex) : Move s (s.seal i)
  | startGrading : Move s s.startGrading
  | close (i : ContextIndex) (o : ItemOutcome) (d : Option Delivery) (h : s.closable i) : Move s (s.closeContext i o d)
  | opens (j : ContextIndex) (t : Tray) (f : InductItem) (hfree : (s.context j).state = .free) (ht : t ≠ noTray)
      (hmap : s.lookup t = none) : Move s (s.openContext j t f)
  | replaces (i j : ContextIndex) (t : Tray) (f : InductItem) (hfree : (s.context j).state = .free) (ht : t ≠ noTray)
      (hmap : s.lookup t = some i) (hi : (s.context i).state ≠ .grading) :
      Move s ((s.closeContext i .replaced none).openContext j t f)
  | admitItem (i : ContextIndex) (h : (s.context i).state = .reporting) : Move s (s.admitItem i)
  /-- A grading completes (R43). -/
  | graded (g : Grading) (h : s.inFlight = some g) :
      Move s ({ s with inFlight := none }.modContext g.context (s.gradedContext g.classes))
  /-- A grading completes for a context marked for abandon (R46). -/
  | abandoned (g : Grading) (h : s.inFlight = some g) :
      Move s ({ s with inFlight := none }.closeContext g.context .abandoned none)
  | writeTable (w : TableChange) (code : Byte) (params : List Byte) (h : parseTableChange code params = some w) :
      Move s (s.writeTable w)
  | configure (g : Settings) (params : List Byte) (h : parseConfigure params = some g) : Move s { s with settings := g }
  | softReset : Move s s.softReset
  | powerOn : Move s { State.reset with pending := s.pending }

/-- A run of moves. -/
inductive Moves (s : State) : State → Prop
  | start : Moves s s
  | andThen {t u : State} (h : Moves s t) (m : Move t u) : Moves s u

theorem Moves.refl (s : State) : Moves s s := .start

theorem Moves.trans {s t u : State} (h : Moves s t) (h' : Moves t u) : Moves s u := by
  induction h' with
  | start => exact h
  | andThen _ m ih => exact .andThen ih m

theorem Move.run {s t : State} (m : Move s t) : Moves s t := .andThen .start m

theorem Aside.run {s t : State} (h : Aside s t) : Moves s t := (Move.aside h).run

/-- A law that every move keeps is kept by every run of moves. -/
theorem Moves.keeps {P : State → Prop} (h : ∀ s t, Move s t → P s → P t) {s t : State} (m : Moves s t) (hs : P s) : P t := by
  induction m with
  | start => exact hs
  | andThen _ m ih => exact h _ _ m ih

end Sys2Proof.Machine
end

section
/-! Changes of one context in its slot, and the pricing and merge of a defect record, with what they keep (R13 to R17). -/

namespace Sys2Proof.Machine

/-! ### Changes of one context -/

/-- A change of flags, lost ports, tags and, between GRADED and ORDERED, of the state. -/
theorem ContextKept.flags {s : State} {c c' : Context} (h : c' = { c with
      state := c'.state, lost := c'.lost, tags := c'.tags, mismatch := c'.mismatch, late := c'.late,
      exceptionRoute := c'.exceptionRoute, abandonMark := c'.abandonMark })
    (hs : c'.state = c.state ∨ c.state = .graded ∧ c'.state = .ordered ∨ c.state = .ordered ∧ c'.state = .graded) :
    ContextKept s c c' where
  tray := by rw [h]
  state := hs
  expected := by rw [h]
  reported p hp := by rw [h]; exact hp
  reports p hp := by rw [h] at hp; exact .inl hp
  list hl := by rw [h]; exact hl
  ranges _ hr := by rw [h]; exact ⟨hr.laps, hr.list, hr.measured, hr.catalogue, hr.score, hr.target⟩

theorem ContextKept.lap (s : State) (c : Context) : ContextKept s c { c with laps := min Config.lapMax (c.laps + 1) } where
  tray := rfl
  state := .inl rfl
  expected := rfl
  reported _ hp := hp
  reports _ hp := .inl hp
  list hl := hl
  ranges _ hr := ⟨Nat.min_le_left _ _, hr.list, hr.measured, hr.catalogue, hr.score, hr.target⟩

theorem ContextKept.report (s : State) {c : Context} {p : StationPort} (hp : portIn p c.expected = true) :
    ContextKept s c { c with reported := portInsert p c.reported } where
  tray := rfl
  state := .inl rfl
  expected := rfl
  reported q hq := (portIn_portInsert p q _).mpr (.inr hq)
  reports q hq := ((portIn_portInsert p q _).mp hq).elim (fun e => .inr (e ▸ hp)) .inl
  list hl := hl
  ranges _ hr := ⟨hr.laps, hr.list, hr.measured, hr.catalogue, hr.score, hr.target⟩

/-- The weight kept is the held or the new one (R17). -/
theorem weightKept_le {catalogue new n : Nat} {held : Option Nat} (hh : ∀ m, held = some m → m ≤ n) (hn : new ≤ n) :
    weightKept catalogue held new ≤ n := by
  unfold weightKept
  cases held with
  | none => exact hn
  | some m =>
    have := hh m rfl
    dsimp only
    repeat' split
    all_goals assumption

theorem ContextKept.weight (s : State) (c : Context) (grams : BitVec 16) : ContextKept s c (c.mergeWeight grams) where
  tray := rfl
  state := .inl rfl
  expected := rfl
  reported _ hp := hp
  reports _ hp := .inl hp
  list hl := hl
  ranges _ hr := ⟨hr.laps, hr.list, fun m hm => by
    cases hm
    exact weightKept_le hr.measured (Nat.min_le_left _ _), hr.catalogue, hr.score, hr.target⟩

/-! ### Priced defect records -/

/-- What 1.1 allows of an entry of the observation list (R13). -/
def EntrySound (o : Observation) : Prop := o.zone ≤ 2 ∧ 1 ≤ o.extent ∧ o.extent ≤ 4 ∧ o.points ≤ 1020

/-- A defect's points are at most 255 · 4 · 4 / 4 (R13). -/
theorem defectPoints_le {w zone extent : Nat} (hw : w ≤ 255) (hz : zone ≤ 2) (he : extent ≤ 4) :
    defectPoints w zone extent ≤ 1020 := by
  have hf : zoneFactor zone ≤ 4 := Nat.pow_le_pow_right (by decide) hz
  have hp : w * zoneFactor zone * extent ≤ 255 * 4 * 4 := Nat.mul_le_mul (Nat.mul_le_mul hw hf) he
  unfold defectPoints
  omega

/-- On tables in range the price of a record is an entry in range (R13). -/
theorem State.price_sound {s : State} (h : TablesSound s) (p : StationPort) (category : Fin 64) (code : Fin 128)
    (zone : Fin 4) (extent : Fin 8) : EntrySound (s.price p category code zone extent) := by
  obtain ⟨_, hweights, _, _, hsettings⟩ := h
  obtain ⟨_, _, _, _, _, _, _, _, hzone, hext1, hext4⟩ := hsettings
  have hw := hweights (s.defectSetOf category) code
  unfold State.price
  cases (s.port p).capability with
  | basic => exact ⟨hzone, hext1, hext4, defectPoints_le hw hzone hext4⟩
  | extended =>
    have hz : zoneTaken zone ≤ 2 := Nat.min_le_right _ _
    have he : 1 ≤ extentTaken extent ∧ extentTaken extent ≤ 4 := by
      unfold extentTaken clampTo
      omega
    exact ⟨hz, he.1, he.2, defectPoints_le hw hz he.2⟩

/-- A merged entry keeps its code, and its range where both had it (R14). -/
theorem Observation.merge_code (held new : Observation) (h : held.code = new.code) : (held.merge new).code = held.code := by
  unfold Observation.merge
  split
  · exact h.symm
  · rfl

theorem Observation.merge_sound {held new : Observation} (hh : EntrySound held) (hn : EntrySound new) :
    EntrySound (held.merge new) := by
  unfold Observation.merge
  split
  · exact hn
  · exact hh

/-- A list without doubles keeps none where an entry is replaced by one that it does not hold. -/
theorem nodup_set {α : Type} {l : List α} {a : α} (hl : l.Nodup) (ha : a ∉ l) (i : Nat) : (l.set i a).Nodup := by
  induction l generalizing i with
  | nil => exact hl
  | cons x xs ih =>
    obtain ⟨hx, hxs⟩ := List.nodup_cons.mp hl
    cases i with
    | zero => exact List.nodup_cons.mpr ⟨fun h => ha (List.mem_cons_of_mem x h), hxs⟩
    | succ i =>
      refine List.nodup_cons.mpr ⟨fun h => ?_, ih hxs (fun h => ha (List.mem_cons_of_mem x h)) i⟩
      rcases List.mem_or_eq_of_mem_set h with h | rfl
      · exact hx h
      · exact ha List.mem_cons_self

/-- What a merge leaves of the list: entries of it and the new one, or merges of the two, with at most 12 entries and no code
twice (R14, R15). -/
theorem Context.mergeDefect_list {c : Context} {o : Observation} (hl : ListSound c) : ListSound (c.mergeDefect o) := by
  obtain ⟨hlen, hnodup⟩ := hl
  unfold Context.mergeDefect
  split
  · have hcodes : (c.observations.map (fun h => if h.code == o.code then h.merge o else h)).map Observation.code =
        c.observations.map Observation.code := by
      rw [List.map_map]
      refine List.map_congr_left fun h _ => ?_
      dsimp only [Function.comp]
      split
      · next he => exact h.merge_code o (by simpa using he)
      · rfl
    exact ⟨by simpa using hlen, by rw [hcodes]; exact hnodup⟩
  · next hany =>
    have hnew : o.code ∉ c.observations.map Observation.code := by simpa using hany
    split
    · next hroom =>
      refine ⟨?_, ?_⟩
      · show (c.observations ++ [o]).length ≤ 12
        rw [List.length_append]
        exact hroom
      · show ((c.observations ++ [o]).map Observation.code).Nodup
        rw [List.map_append]
        exact List.nodup_append.mpr ⟨hnodup, by simp, by simpa using hany⟩
    · split
      · next i w _ =>
        split
        · refine ⟨?_, ?_⟩
          · show (c.observations.set i o).length ≤ 12
            rw [List.length_set]
            exact hlen
          · show ((c.observations.set i o).map Observation.code).Nodup
            rw [List.map_set]
            exact nodup_set hnodup hnew i
        · exact ⟨hlen, hnodup⟩
      · exact ⟨hlen, hnodup⟩

theorem Context.mergeDefect_entries {c : Context} {o : Observation} (hc : ∀ x ∈ c.observations, EntrySound x)
    (ho : EntrySound o) : ∀ x ∈ (c.mergeDefect o).observations, EntrySound x := by
  unfold Context.mergeDefect
  split
  · intro x hx
    obtain ⟨h, hh, rfl⟩ := List.mem_map.mp hx
    split
    · exact Observation.merge_sound (hc h hh) ho
    · exact hc h hh
  · split
    · intro x hx
      rcases List.mem_append.mp hx with hx | hx
      · exact hc x hx
      · exact List.mem_singleton.mp hx ▸ ho
    · split
      · split
        · intro x hx
          rcases List.mem_or_eq_of_mem_set hx with hx | hx
          · exact hc x hx
          · exact hx ▸ ho
        · exact hc
      · exact hc

/-- A merge changes the list and its two overflow flags alone. -/
theorem Context.mergeDefect_frame (c : Context) (o : Observation) : c.mergeDefect o = { c with
    observations := (c.mergeDefect o).observations, overflow := (c.mergeDefect o).overflow,
    manualDropped := (c.mergeDefect o).manualDropped } := by
  unfold Context.mergeDefect
  repeat' split
  all_goals rfl

theorem ContextKept.defect {s : State} {c : Context} {o : Observation} (ho : TablesSound s → EntrySound o) :
    ContextKept s c (c.mergeDefect o) where
  tray := by rw [Context.mergeDefect_frame]
  state := .inl (by rw [Context.mergeDefect_frame])
  expected := by rw [Context.mergeDefect_frame]
  reported p hp := by rw [Context.mergeDefect_frame]; exact hp
  reports p hp := by rw [Context.mergeDefect_frame] at hp; exact .inl hp
  list := Context.mergeDefect_list
  ranges ht hr := by
    have hlist := Context.mergeDefect_entries hr.list (ho ht)
    rw [Context.mergeDefect_frame]
    exact ⟨hr.laps, hlist, hr.measured, hr.catalogue, hr.score, hr.target⟩

end Sys2Proof.Machine
end

section
/-! The station ports' commands, frames and timers as runs of moves (R125 to R141). -/

namespace Sys2Proof.Machine

/-! ### Transmitters and ports -/

theorem Moves.sendStation (s : State) (p : StationPort) (f : StationFrame) : Moves s (s.sendStation p f) := by
  refine Move.run (.sends (by rw [State.sendStation_frame]) (fun q => ?_) (by rw [State.sendStation_frame]; exact Nat.le_max_right _ _))
  unfold State.sendStation
  split
  · next h =>
    have hroom : s.stationTx[p].length < 8 := of_decide_eq_true (Bool.and_eq_true_iff.mp h).2
    simp only [Fin.getElem_fin, Vector.getElem_set]
    split
    · rw [List.length_append, List.length_singleton]
      exact Nat.le_trans hroom (Nat.le_max_left _ _)
    · exact Nat.le_max_right _ _
  · exact Nat.le_max_right _ _

theorem Moves.sendSorter (s : State) (f : SorterFrame) : Moves s (s.sendSorter f) := by
  refine Move.run (.sends (by rw [State.sendSorter_frame]) (fun q => ?_) ?_)
  · rw [State.sendSorter_frame]
    exact Nat.le_max_right _ _
  · unfold State.sendSorter
    split
    · next h =>
      have hroom : s.sorterTx.length < 64 := of_decide_eq_true (Bool.and_eq_true_iff.mp h).2
      rw [List.length_append, List.length_singleton]
      exact Nat.le_trans hroom (Nat.le_max_left _ _)
    · exact Nat.le_max_right _ _

theorem Moves.thenSend {s t : State} (h : Moves s t) (p : StationPort) (f : StationFrame) : Moves s (t.sendStation p f) :=
  h.trans (.sendStation t p f)

theorem Moves.thenEvent {s t : State} (h : Moves s t) (a : Advisory) : Moves s (t.offerEvent a) :=
  h.trans (Aside.offerEvent t a).run

/-- The frames waiting at one station port become no more. -/
theorem Moves.stationTx (s : State) (p : StationPort) {l : List StationFrame} (h : l.length ≤ s.stationTx[p].length) :
    Moves s { s with stationTx := s.stationTx.set p l } := by
  refine Move.run (.sends rfl (fun q => ?_) (Nat.le_max_right _ _))
  simp only [Fin.getElem_fin, Vector.getElem_set]
  split
  · next hpq =>
    obtain rfl : p = q := Fin.ext hpq
    exact Nat.le_trans h (Nat.le_max_right _ _)
  · exact Nat.le_max_right _ _

theorem PortKept.refl (P : PortRecord) : PortKept P P := ⟨id, Nat.le_max_right _ _⟩

/-- One port changes, and does not leave READY and PAUSING. -/
theorem Moves.modPort {s : State} {p : StationPort} {f : PortRecord → PortRecord} (hk : PortKept (s.port p) (f (s.port p)))
    (he : (s.port p).state = .ready ∨ (s.port p).state = .pausing →
      (f (s.port p)).state = .ready ∨ (f (s.port p)).state = .pausing) : Moves s (s.modPort p f) := by
  refine Move.run (.ports rfl (fun q => ?_) (fun q => ?_))
  · rw [State.port_modPort]
    split
    · next h => exact h ▸ hk
    · exact .refl _
  · rw [State.port_modPort]
    split
    · next h => exact h ▸ he
    · exact id

/-- A port's queue, HOLD state and classes change, as far as its state allows. -/
theorem Moves.modPort_queue {s : State} {p : StationPort} {f : PortRecord → PortRecord}
    (h : f (s.port p) = { s.port p with
      expectedClass := (f (s.port p)).expectedClass, inbound := (f (s.port p)).inbound, hold := (f (s.port p)).hold })
    (hq : (f (s.port p)).inbound.length ≤ max 16 (s.port p).inbound.length)
    (hh : (s.port p).state = .detached ∨ (s.port p).state = .listening → (s.port p).hold = false → (f (s.port p)).hold = false) :
    Moves s (s.modPort p f) := by
  refine Moves.modPort ⟨fun ⟨htimer, hcause, hhold, hcompound⟩ => ?_, hq⟩ (by rw [h]; exact id)
  rw [h]
  exact ⟨htimer, hcause, fun hs => hh hs (hhold hs), hcompound⟩

/-- Offering an event and changing a port come to the same in either order. -/
theorem State.offerEvent_modPort (s : State) (p : StationPort) (f : PortRecord → PortRecord) (a : Advisory) :
    (s.modPort p f).offerEvent a = (s.offerEvent a).modPort p f := by
  have hroute : (s.modPort p f).route a.kind = s.route a.kind := rfl
  have hroom : (s.modPort p f).hasAdvisoryRoom = s.hasAdvisoryRoom := rfl
  have hadmit : ∀ b, ({ s.modPort p f with attention := b } : State).admitEvent a =
      (({ s with attention := b } : State).admitEvent a).modPort p f := by
    intro b
    unfold State.admitEvent
    have h1 : ({ s.modPort p f with attention := b } : State).hasAdvisoryRoom = s.hasAdvisoryRoom := rfl
    have h2 : ({ s with attention := b } : State).hasAdvisoryRoom = s.hasAdvisoryRoom := rfl
    rw [h1, h2]
    split <;> rfl
  unfold State.offerEvent
  rw [hroute]
  cases s.route a.kind with
  | off => rfl
  | frame => exact hadmit s.attention
  | frameAndAttention => exact hadmit true

@[simp] theorem State.offerEvent_port (s : State) (a : Advisory) (q : StationPort) : (s.offerEvent a).port q = s.port q := by
  rw [State.offerEvent_frame]; rfl

theorem State.portEvent_modPort (s : State) (p q : StationPort) (f : PortRecord → PortRecord) (d : PortDetail) :
    (s.modPort p f).portEvent q d = (s.portEvent q d).modPort p f := State.offerEvent_modPort ..

@[simp] theorem State.portEvent_port (s : State) (d : PortDetail) (p q : StationPort) :
    (s.portEvent p d).port q = s.port q := State.offerEvent_port ..

theorem Aside.portEvent (s : State) (p : StationPort) (d : PortDetail) : Aside s (s.portEvent p d) := .offerEvent s _

/-- The end of a management command, whose execution is a run of moves, is one (R169 to R171). -/
theorem Moves.runCommand {s : State} {act : State → State × Reply} (tag code : Byte) (ps : List Byte)
    (h : Moves s (act s).1) : Moves s (s.runCommand tag code ps act) := by
  rcases s.runCommand_cases tag code ps act with ⟨_, he⟩ | ⟨_, ⟨t, r, pl, ha, he⟩ | ⟨t, ha, he⟩⟩ <;> rw [he]
  · exact (Aside.offerBusy s tag code).run
  · rw [ha] at h
    exact Moves.trans h (Aside.finish t tag code ps r pl).run
  · rw [ha] at h
    refine Moves.trans (t := t) h (Aside.run ?_)
    exact .still rfl rfl rfl

/-! ### Port states (R125, R126, R138, R141) -/

section
variable {P : PortRecord}

theorem portKept_listen : PortKept P P.listen :=
  ⟨fun ⟨_, _, _, _⟩ => by simp [PortSound, PortRecord.listen], Nat.le_max_right _ _⟩

theorem portKept_compound (h : P.state = .listening) : PortKept P { P with compound := true } :=
  ⟨fun ⟨ht, hc, hh, _⟩ => ⟨ht, hc, hh, fun _ => .inl h⟩, Nat.le_max_right _ _⟩

/-- A port without fault starts its probe, with the compound set or as it was (R128, R130). -/
theorem portKept_probing (h : P.state ≠ .fault) (b : Bool) :
    PortKept P { P with state := .probing, compound := b, timer := some Config.probeWindow } :=
  ⟨fun ⟨_, hc, _, _⟩ => by simp_all [PortSound], Nat.le_max_right _ _⟩

theorem portKept_ready (h : P.state = .probed) : PortKept P { P with state := .ready } :=
  ⟨fun ⟨ht, hc, _, hk⟩ => by simp_all [PortSound], Nat.le_max_right _ _⟩

theorem portKept_pausing (h : P.state = .ready) : PortKept P { P with state := .pausing, timer := some Config.pauseTimeout } :=
  ⟨fun ⟨_, hc, _, hk⟩ => by simp_all [PortSound], Nat.le_max_right _ _⟩

theorem portKept_resuming (h : P.state = .paused) :
    PortKept P { P with state := .resuming, timer := some Config.resumeTimeout } :=
  ⟨fun ⟨_, hc, _, hk⟩ => by simp_all [PortSound], Nat.le_max_right _ _⟩

theorem portKept_detached :
    PortKept P { P with state := .detached, timer := none, compound := false, faultCause := none, hold := false } :=
  ⟨fun _ => by simp [PortSound], Nat.le_max_right _ _⟩

theorem portKept_attached (h : P.state = .listening) (hc : P.compound = false) : PortKept P { P with state := .attached } :=
  ⟨fun ⟨ht, hf, _, _⟩ => by simp_all [PortSound], Nat.le_max_right _ _⟩

theorem portKept_probed (h : P.state = .probing) (hc : P.compound = false) (c : StationClass) (cap : Capability) :
    PortKept P { P with state := .probed, timer := none, detectedClass := c, capability := cap } :=
  ⟨fun ⟨_, hf, _, _⟩ => by simp_all [PortSound], Nat.le_max_right _ _⟩

theorem portKept_probedReady (h : P.state = .probing) (c : StationClass) (cap : Capability) :
    PortKept P { P with state := .ready, timer := none, detectedClass := c, capability := cap, compound := false } :=
  ⟨fun ⟨_, hf, _, _⟩ => by simp_all [PortSound], Nat.le_max_right _ _⟩

theorem portKept_fault (f : FaultCause) :
    PortKept P { P with state := .fault, timer := none, compound := false, faultCause := some f } :=
  ⟨fun _ => by simp [PortSound], Nat.le_max_right _ _⟩

theorem portKept_paused (h : P.state = .pausing) : PortKept P { P with state := .paused, timer := none } :=
  ⟨fun ⟨_, hf, _, hk⟩ => by simp_all [PortSound], Nat.le_max_right _ _⟩

theorem portKept_resumed (h : P.state = .resuming) : PortKept P { P with state := .ready, timer := none } :=
  ⟨fun ⟨_, hf, _, hk⟩ => by simp_all [PortSound], Nat.le_max_right _ _⟩

theorem portKept_lost (h : P.state ≠ .fault) :
    PortKept P { P with state := .listening, timer := none, hold := false, compound := false } :=
  ⟨fun ⟨_, hf, _, _⟩ => by simp_all [PortSound], Nat.le_max_right _ _⟩

theorem portKept_tick : PortKept P { P with timer := P.timer.map Nat.pred } :=
  ⟨fun ⟨ht, hf, hh, hk⟩ => ⟨by simpa using ht, hf, hh, hk⟩, Nat.le_max_right _ _⟩

end

/-! ### Port commands (R127 to R130) -/

/-- A port that waits for no answer starts its probe. -/
theorem Moves.startProbe {s : State} {p : StationPort} (h : (s.port p).state = .attached ∨ (s.port p).state = .probed) :
    Moves s (s.startProbe p) := by
  have hf : (s.port p).state ≠ .fault := by rcases h with h | h <;> simp [h]
  exact .thenSend (.modPort (portKept_probing hf _) (by rcases h with h | h <;> simp [h])) _ _

theorem Moves.listen {s : State} {p : StationPort} (h : (s.port p).state = .detached ∨ (s.port p).state = .fault) :
    Moves s (s.modPort p PortRecord.listen) :=
  .modPort portKept_listen (by rcases h with h | h <;> simp [h])

theorem Moves.goListenStep {s t : State} {p : StationPort} (h : s.goListenStep p = some t) : Moves s t := by
  unfold State.goListenStep at h
  split at h <;> cases h
  · next hs => exact .listen (.inl hs)
  · next hs => exact .listen (.inr hs)

theorem Moves.goProbeStep {s t : State} {p : StationPort} (h : s.goProbeStep p = some t) : Moves s t := by
  unfold State.goProbeStep at h
  split at h <;> cases h
  · next hs => exact .startProbe (.inl hs)
  · next hs => exact .startProbe (.inr hs)

theorem Moves.goReadyStep {s t : State} {p : StationPort} (h : s.goReadyStep p = some t) : Moves s t := by
  unfold State.goReadyStep at h
  split at h <;> cases h
  next hs => exact .modPort (portKept_ready hs) (fun _ => .inl rfl)

theorem Moves.goPauseStep {s t : State} {p : StationPort} (h : s.goPauseStep p = some t) : Moves s t := by
  unfold State.goPauseStep at h
  split at h <;> cases h
  next hs => exact .thenSend (.modPort (portKept_pausing hs) (fun _ => .inr rfl)) _ _

theorem Moves.goResumeStep {s t : State} {p : StationPort} (h : s.goResumeStep p = some t) : Moves s t := by
  unfold State.goResumeStep at h
  split at h <;> cases h
  next hs => exact .thenSend (.modPort (portKept_resuming hs) (by simp [hs])) _ _

theorem Moves.goCompoundStep {s t : State} {p : StationPort} (h : s.goCompoundStep p = some t) : Moves s t := by
  unfold State.goCompoundStep at h
  dsimp only at h
  split at h <;> cases h
  · next hs =>
    rw [State.modPort_modPort]
    exact .modPort ⟨fun _ => by simp [PortSound, PortRecord.listen], Nat.le_max_right _ _⟩ (by simp [hs])
  · next hs =>
    rw [State.modPort_modPort]
    exact .modPort ⟨fun _ => by simp [PortSound, PortRecord.listen], Nat.le_max_right _ _⟩ (by simp [hs])
  · next hs => exact .modPort (portKept_compound hs) (by simp [hs])
  · next hs =>
    unfold State.startProbe
    rw [State.modPort_modPort]
    exact .thenSend (.modPort (portKept_probing (by simp [hs]) true) (by simp [hs])) _ _

theorem Moves.goAct {s : State} {effect : State → StationPort → Option State} (target : Nat) (ps : List Byte)
    (h : ∀ p t, effect s p = some t → Moves s t) : Moves s (goAct target ps effect s).1 := by
  unfold Machine.goAct
  split
  · exact .refl _
  · next p _ =>
    split
    · exact .refl _
    · split
      · next t ht => exact h p t ht
      · exact .refl _

/-- A port changes and is withdrawn where it leaves READY or PAUSING (R21, R139). -/
theorem Moves.leaves {s : State} {p : StationPort} {f : PortRecord → PortRecord} (P : PortRecord) (hP : s.port p = P)
    (hk : PortKept P (f P)) : Moves s (if P.state = .ready ∨ P.state = .pausing then (s.modPort p f).withdraw p else s.modPort p f) := by
  subst hP
  split
  · exact Move.run (.withdrawn p f hk)
  · next h => exact .modPort hk (fun h' => absurd h' h)

theorem Moves.detach (s : State) (p : StationPort) : Moves s (s.detach p) := by
  unfold State.detach
  dsimp only
  split
  · exact .refl _
  · have hdrop : Moves s (s.dropStationTx p) := by
      refine .stationTx s p ?_
      unfold State.stationSending
      split
      · exact List.length_take_le' ..
      · exact Nat.zero_le _
    by_cases hc : (s.port p).compound = true
    · rw [if_pos hc, State.portEvent_modPort]
      exact (hdrop.trans (Aside.portEvent _ p .compoundCancelled).run).trans
        (.leaves (s.port p) (State.portEvent_port ..) portKept_detached)
    · rw [if_neg hc]
      exact hdrop.trans (.leaves (s.port p) rfl portKept_detached)

theorem Moves.losePortLink (s : State) (p : StationPort) : Moves s (s.losePortLink p) := by
  unfold State.losePortLink
  dsimp only
  split
  · exact .refl _
  · exact .refl _
  · exact .refl _
  · next hfault =>
    have hlost := (Aside.portEvent s p .lost).run
    rw [State.portEvent_modPort]
    by_cases hc : (s.port p).compound = true
    · rw [if_pos hc, State.portEvent_modPort]
      exact (hlost.trans (Aside.portEvent _ p .compoundCancelled).run).trans
        (.leaves (s.port p) (by simp) (portKept_lost hfault))
    · rw [if_neg hc]
      exact hlost.trans (.leaves (s.port p) (by simp) (portKept_lost hfault))

/-! ### Station frames and port timers (R131 to R136) -/

theorem Moves.attach {s : State} {p : StationPort} (h : (s.port p).state = .listening) : Moves s (s.attach p) := by
  unfold State.attach
  dsimp only
  rw [State.portEvent_modPort]
  have hev := (Aside.portEvent s p .attached).run
  split
  · unfold State.startProbe
    rw [State.modPort_modPort]
    exact .thenSend (hev.trans (.modPort (by simpa using portKept_probing (by simp [h]) _) (by simp [h]))) _ _
  · next hc => exact hev.trans (.modPort (by simpa using portKept_attached h (by simpa using hc)) (by simp [h]))

theorem Moves.stationFrame {s t : State} {p : StationPort}
    (h : (s.port p).state ≠ .detached → (s.port p).state ≠ .listening → Moves s t) : Moves s (s.stationFrame p t) := by
  unfold State.stationFrame
  split
  · exact .refl _
  · next hl => exact .attach hl
  · next hd hl => exact h hd hl

theorem Moves.endProbe {s : State} {p : StationPort} (h : (s.port p).state = .probing) (c : StationClass) (cap : Capability)
    (d : Bool) : Moves s (s.endProbe p c cap d) := by
  unfold State.endProbe
  dsimp only
  rw [s.portEvent_modPort]
  have hev := (Aside.portEvent s p (.probed c cap d)).run
  split
  · rw [State.modPort_modPort]
    exact .thenEvent (hev.trans (.modPort (by simpa using portKept_probedReady h c cap) (by simp [h]))) _
  · next hc => exact hev.trans (.modPort (by simpa using portKept_probed h (by simpa using hc) c cap) (by simp [h]))

theorem Moves.enterFault (s : State) (p : StationPort) (f : FaultCause) (d : PortDetail) : Moves s (s.enterFault p f d) := by
  unfold State.enterFault
  rw [State.portEvent_modPort]
  exact (Aside.portEvent s p d).run.trans (Move.withdrawn p _ (portKept_fault f)).run

theorem Moves.endPause {s : State} {p : StationPort} (h : (s.port p).state = .pausing) (d : PortDetail) :
    Moves s (s.endPause p d) := by
  unfold State.endPause
  rw [State.portEvent_modPort]
  exact (Aside.portEvent s p d).run.trans (Move.withdrawn p _ (by simpa using portKept_paused h)).run

theorem Moves.takeAnnounce (s : State) (p : StationPort) (cls cap : Byte) : Moves s (s.takeAnnounce p cls cap) := by
  unfold State.takeAnnounce
  split
  · next h =>
    split
    · exact .endProbe h _ _ _
    · exact .enterFault _ _ _ _
  · exact .refl _

theorem Moves.takeResumeAck (s : State) (p : StationPort) : Moves s (s.takeResumeAck p) := by
  unfold State.takeResumeAck
  split
  · next h => exact .thenEvent (.modPort (portKept_resumed h) (by simp [h])) _
  · exact .refl _

theorem PortRecord.ranOut_state {P : PortRecord} {st : PortState} (h : P.ranOut st = true) : P.state = st :=
  of_decide_eq_true (Bool.and_eq_true_iff.mp h).1

/-! ### The ports' queues (R140, R141) -/

theorem Moves.holdTest {s : State} {p : StationPort} (hd : (s.port p).state ≠ .detached)
    (hl : (s.port p).state ≠ .listening) : Moves s (s.holdTest p) := by
  unfold State.holdTest
  split
  · refine .thenSend (.modPort_queue rfl (Nat.le_max_right _ _) fun hs => ?_) _ _
    rcases hs with hs | hs
    · exact absurd hs hd
    · exact absurd hs hl
  · exact .refl _

theorem Moves.losePort (s : State) (p : StationPort) (t : Tray) : Moves s (s.losePort p t) := by
  unfold State.losePort State.forContext
  split
  · refine Move.run (.context _ _ ?_)
    split
    · exact .flags rfl (.inl rfl)
    · exact .flags rfl (.inl rfl)
  · exact .refl _

theorem Moves.joinQueue {s : State} {p : StationPort} (hd : (s.port p).state ≠ .detached)
    (hl : (s.port p).state ≠ .listening) (r : ObsRecord) : Moves s (s.joinQueue p r) := by
  unfold State.joinQueue
  split
  · next hroom =>
    have hroom' : (s.port p).inbound.length < 16 := hroom
    refine Moves.trans (.modPort_queue rfl ?_ fun _ h => h) (.holdTest (by simpa using hd) (by simpa using hl))
    rw [List.length_append, List.length_singleton]
    exact Nat.le_trans hroom' (Nat.le_max_left _ _)
  · exact (Aside.offerEvent _ _).run.trans (.losePort _ _ _)

end Sys2Proof.Machine
end

section
/-! The taking of records, orders and decisions, management, gradings, induction, links and time as runs of moves. -/

namespace Sys2Proof.Machine

/-! ### Taking records (R12 to R19) -/

theorem Moves.context {s : State} {i : ContextIndex} {f : Context → Context}
    (h : ContextKept s (s.context i) (f (s.context i))) : Moves s (s.modContext i f) := (Move.context i f h).run

theorem Moves.close {s : State} {i : ContextIndex} (h : s.closable i) (o : ItemOutcome) (d : Option Delivery) :
    Moves s (s.closeContext i o d) := (Move.close i o d h).run

theorem Moves.afterLeave {s : State} {p : StationPort} {r : ObsRecord} {rest : List ObsRecord}
    (h : (s.port p).inbound = r :: rest) : Moves s (s.afterLeave p rest) := by
  have hrest : rest.length ≤ max 16 (s.port p).inbound.length := by
    rw [h, List.length_cons]
    exact Nat.le_trans (Nat.le_succ _) (Nat.le_max_right _ _)
  unfold State.afterLeave
  dsimp only
  split
  · refine .thenSend ?_ _ _
    rw [State.modPort_modPort]
    exact .modPort_queue rfl hrest fun _ _ => rfl
  · exact .modPort_queue rfl hrest fun _ h => h

theorem Moves.mergeOf {s : State} {p : StationPort} {i : ContextIndex} (hexp : portIn p (s.context i).expected = true)
    (b : RecordBody) : Moves s (mergeOf p b s i) := by
  cases b with
  | defect code zone extent =>
    simp only [Machine.mergeOf, mergeDefectRecord]
    exact .context (.defect fun ht => State.price_sound ht ..)
  | tag present mismatch =>
    simp only [Machine.mergeOf, mergeTagRecord]
    exact .context (.flags rfl (.inl rfl))
  | weight grams =>
    simp only [Machine.mergeOf, mergeWeightRecord]
    exact .context (.weight s _ grams)
  | itemDone =>
    have hreport : Moves s (s.modContext i (fun c => { c with reported := portInsert p c.reported })) :=
      .context (.report s hexp)
    unfold Machine.mergeOf mergeItemDone
    dsimp only
    split
    · exact hreport.trans (Move.seals i).run
    · exact hreport

theorem Moves.routeAndMerge (s : State) (p : StationPort) (r : ObsRecord) :
    Moves s (s.routeAndMerge p r (Machine.mergeOf p r.body)) := by
  unfold State.routeAndMerge
  split
  · refine .thenEvent ?_ _
    unfold State.forContext
    split
    · exact .context (.flags rfl (.inl rfl))
    · exact .refl _
  · exact (Aside.offerEvent s _).run
  · next i hr =>
    obtain ⟨_, _, hexp, _⟩ := (s.routeRecord_merged p r.tray r.body.kind i).mp hr
    exact .mergeOf hexp _

/-- A row that takes a record of its kind does so by a run of moves, whatever merge it names for the other kinds. -/
theorem Moves.takeRecord {s : State} {p : StationPort} {k : RecordKind} {merge : RecordBody → State → ContextIndex → State}
    (hm : ∀ b, b.kind = k → merge b = Machine.mergeOf p b) : Moves s (s.takeRecord p k merge) := by
  cases hin : (s.port p).inbound with
  | nil =>
    simp only [State.takeRecord, hin]
    exact .refl s
  | cons r rest =>
    by_cases hk : r.body.kind = k
    · rw [State.takeRecord_head s hin hk, State.releaseTest_eq_afterLeave, hm _ hk]
      exact (Moves.afterLeave hin).trans (.routeAndMerge _ p r)
    · simp only [State.takeRecord, hin, if_neg hk]
      exact .refl s

/-! ### Orders and decisions (R76 to R99) -/

/-- An order leaves the list. -/
theorem Moves.eraseOrder (s : State) (o : DivertOrder) : Moves s { s with orders := s.orders.erase o } :=
  (Move.orders rfl fun o' ho' => .inl ⟨o', List.mem_of_mem_erase ho', rfl, Nat.le_refl _⟩).run

theorem Moves.settleRelease (s : State) (o : DivertOrder) : Moves s (s.settleRelease o) :=
  (Moves.eraseOrder s o).trans ((Aside.modDescriptor _ _ _).trans (.completeClosing _ _)).run

theorem Moves.settleCommit (s : State) (o : DivertOrder) : Moves s (s.settleCommit o) :=
  (Moves.eraseOrder s o).trans (((Aside.modDescriptor _ _ _).trans (.countTest _ _ _)).trans (.completeClosing _ _)).run

theorem Moves.unorder (s : State) (i : ContextIndex) : Moves s (s.unorder i) := by
  refine .context ?_
  split
  · next h => exact .flags rfl (.inr (.inr ⟨h, rfl⟩))
  · exact .flags rfl (.inl rfl)

theorem Moves.placeOrder (s : State) (i : ContextIndex) : Moves s (s.placeOrder i) := by
  refine .context ?_
  split
  · next h => exact .flags rfl (.inr (.inl ⟨h, rfl⟩))
  · exact .flags rfl (.inl rfl)

theorem Moves.countLap (s : State) (i : ContextIndex) : Moves s (s.countLap i) := .context (.lap s _)

/-- A run of moves that goes on for the context that an entry names. -/
theorem Moves.thenForContext {s t : State} (h : Moves s t) {f : State → ContextIndex → State} (c : Option ContextIndex)
    (hf : ∀ i, Moves t (f t i)) : Moves s (t.forContext c f) := by
  cases c with
  | none => exact h
  | some i => exact h.trans (hf i)

/-- The weight of a request is one that R80 allows: a context's, or the default. -/
def State.weighs (s : State) (g : Nat) : Prop := g = s.settings.defaultWeight ∨ ∃ i, g = s.itemWeight (s.context i)

theorem Moves.issueOrder {s : State} {g : Nat} (hg : s.weighs g) (t : Tray) (k : Chute) (d : DescriptorIndex)
    (c : Option ContextIndex) : Moves s (s.issueOrder t k d g c) := by
  unfold State.issueOrder
  refine .thenForContext (.trans (.trans ?_ (Aside.modDescriptor _ _ _).run) (.sendSorter _ _)) c (.placeOrder _)
  refine (Move.orders rfl fun o ho => ?_).run
  rcases List.mem_append.mp ho with ho | ho
  · exact .inl ⟨o, ho, rfl, Nat.le_refl _⟩
  · rw [List.mem_singleton.mp ho]
    exact .inr ⟨hg, rfl⟩

theorem Moves.recirculate (s : State) (t : Tray) (c : Option ContextIndex) : Moves s (s.recirculate t c) :=
  .thenForContext (.sendSorter _ _) c (.countLap _)

theorem Moves.tryException {s : State} {g : Nat} (hg : s.weighs g) (t : Tray) (c : Option ContextIndex) :
    Moves s (s.tryException t g c) := by
  unfold State.tryException
  dsimp only
  split
  · exact .issueOrder hg _ _ _ _
  · exact .thenEvent (.recirculate _ _ _) _

theorem Moves.tryTarget (s : State) (t : Tray) (i : ContextIndex) : Moves s (s.tryTarget t i) := by
  unfold State.tryTarget
  dsimp only
  split
  · exact .issueOrder (.inr ⟨i, rfl⟩) _ _ _ _
  · exact .recirculate _ _ _

theorem Moves.impliedMiss (s : State) (t : Tray) : Moves s (s.impliedMiss t) := by
  unfold State.impliedMiss
  split
  · exact .refl s
  · exact .thenForContext (.thenEvent (.settleRelease _ _) _) _ (.unorder _)

theorem Moves.answerRequest (s : State) (t : Tray) : Moves s (s.answerRequest t) := by
  unfold State.answerRequest
  split
  · exact .tryException (.inl rfl) _ _
  · next i _ =>
    split
    · exact (Move.seals i).run.trans (.recirculate _ _ _)
    · split
      · exact .tryTarget _ _ _
      · refine Moves.trans (.context (.flags rfl (.inl rfl))) (.tryException (.inr ⟨i, ?_⟩) _ _)
        rw [State.context_modContext_self]
        rfl
    · exact .recirculate _ _ _

theorem Moves.sorterFrame {s t : State} (h : Moves s t) : Moves s (s.sorterFrame t) := by
  rcases s.sorterFrame_cases t with ⟨_, he⟩ | ⟨_, he⟩ <;> rw [he]
  · exact h
  · exact .refl s

theorem Moves.closeDiverted (s : State) (i : ContextIndex) (d : Delivery) : Moves s (s.closeDiverted i d) := by
  unfold State.closeDiverted
  split
  · next h => exact .close ⟨by simp [h], .inl (by rw [h]; rfl)⟩ _ _
  · exact .refl s

theorem Moves.closeMisdelivered (s : State) (i : ContextIndex) (d : Delivery) : Moves s (s.closeMisdelivered i d) := by
  unfold State.closeMisdelivered
  split
  · next h => exact .close ⟨by simp [h], .inl (by rw [h]; rfl)⟩ _ _
  · next h => exact .close ⟨by simp [h], .inl (by rw [h]; rfl)⟩ _ _
  · next h => exact .close ⟨by simp [h], .inl (by rw [h]; rfl)⟩ _ _
  · exact .refl s

theorem Moves.deliver (s : State) (t : Tray) (k : Chute) (o : DivertOrder) : Moves s (s.deliver t k o) := by
  unfold State.deliver
  dsimp only
  split
  · exact (Moves.settleCommit s o).trans (.closeDiverted _ _ _)
  · exact .thenEvent (.settleCommit s o) _

theorem Moves.deliverElsewhere (s : State) (t : Tray) (k : Chute) (o : DivertOrder) :
    Moves s (s.deliverElsewhere t k o) :=
  .thenEvent (.thenForContext ((Moves.settleRelease s o).trans (Aside.stray _ k).run) o.context
    (fun i => .closeMisdelivered _ i _)) _

theorem Moves.deliverUnordered (s : State) (t : Tray) (k : Chute) : Moves s (s.deliverUnordered t k) := by
  have h : Moves s ((s.stray k).1.offerEvent (.strayDivert t k none)) := .thenEvent (Aside.stray s k).run _
  unfold State.deliverUnordered
  dsimp only
  split
  · exact h
  · split
    · exact h.trans (.closeMisdelivered _ _ _)
    · exact h.trans (.closeMisdelivered _ _ _)
    · exact .thenEvent h _
    · exact .thenEvent h _
    · exact h

theorem Moves.missOrder (s : State) (o : DivertOrder) : Moves s (s.missOrder o) :=
  .thenForContext (.settleRelease s o) o.context (fun i => (Moves.unorder _ i).trans (.countLap _ i))

theorem Moves.cancelOrder (s : State) (i : ContextIndex) : Moves s (s.cancelOrder i) := by
  unfold State.cancelOrder
  split
  · exact (Moves.settleRelease s _).trans (.unorder _ i)
  · exact .unorder s i

/-- The cancel of an ORDERED context's order leaves the context GRADED (R99). -/
theorem State.cancelOrder_graded {s : State} {i : ContextIndex} (h : (s.context i).state = .ordered) :
    ((s.cancelOrder i).context i).state = .graded := by
  have hu : ∀ u : State, (u.context i).state = .ordered → ((u.unorder i).context i).state = .graded := by
    intro u hu
    rw [State.unorder, State.context_modContext_self, if_pos hu]
  unfold State.cancelOrder
  split
  · exact hu _ (by rw [State.settleRelease_context]; exact h)
  · exact hu s h

/-! ### Management commands -/

theorem Moves.abandonTrayAct (s : State) (ps : List Byte) : Moves s (abandonTrayAct ps s).1 := by
  unfold Machine.abandonTrayAct
  split
  · exact .refl s
  · next t _ =>
    dsimp only
    split
    · exact .refl s
    · next i hmap =>
      split
      · dsimp only
        exact .context (.flags rfl (.inl rfl))
      · next h =>
        have hg := State.cancelOrder_graded h
        exact (Moves.cancelOrder s i).trans (.close ⟨by simp [hg], .inl (by rw [hg]; rfl)⟩ _ _)
      · next hgrading _ => exact .close ⟨hgrading, .inr ⟨t, hmap⟩⟩ _ _

theorem Moves.chainLoadAct (s : State) (ps : List Byte) : Moves s (chainLoadAct ps s).1 := by
  unfold Machine.chainLoadAct
  split
  · exact .refl s
  · next k es _ =>
    split
    · exact .refl s
    · have h := fun ds : List DescriptorIndex => ((Aside.fillDescriptors s (ds.zip es)).trans
        (.linkLast _ (s.chute k).lastOfSequence ds.head?)).trans (.modChute _ k (fun c => { c with chain := c.chain ++ ds }))
      refine Aside.run ?_
      dsimp only
      split
      · exact (h _).trans (.enterSwapping _ _)
      · exact (h _).trans (.enterSwapping _ _)
      · exact h _

theorem Moves.controlAct {s : State} {effect : State → Chute → Option State} (action : Nat) (ps : List Byte)
    (h : ∀ k t, effect s k = some t → Aside s t) : Moves s (controlAct action ps effect s).1 := by
  unfold Machine.controlAct
  split
  · exact .refl s
  · next k _ =>
    split
    · next t ht => exact (h k t ht).run
    · exact .refl s

theorem Moves.writeAct {s : State} {code : Byte} {ps : List Byte} {change : Option TableChange}
    (h : change = parseTableChange code ps) : Moves s (writeAct change s).1 := by
  unfold Machine.writeAct
  split
  · exact .refl s
  · split
    · exact (Move.writeTable _ code ps h.symm).run
    · exact .refl s

/-! ### Gradings -/

theorem Moves.takeWrite (s : State) : Moves s s.takeWrite := by
  unfold State.takeWrite State.waitingWrite
  split
  · next c w h =>
    split at h
    · next c' _ =>
      split at h
      · obtain ⟨w', hw, hc⟩ := Option.map_eq_some_iff.mp h
        cases hc
        exact (Move.writeTable _ _ _ hw).run.trans (Aside.finish _ _ _ _ _ _).run
      · cases h
    · cases h
  · exact .refl s

theorem Moves.handOver (s : State) : Moves s s.handOver := by
  unfold State.handOver
  split
  · split
    · exact .takeWrite s
    · exact .refl s
  · exact Move.startGrading.run

theorem Moves.completeContext {s : State} {g : Grading} (h : s.inFlight = some g) :
    Moves s (State.completeContext { s with inFlight := none } g.context g.classes) := by
  unfold State.completeContext
  dsimp only
  split
  · have hclose := (Move.abandoned g h).run
    split
    · split
      · exact hclose.trans (Aside.finish _ _ _ _ _ _).run
      · exact hclose
    · exact hclose
  · exact (Move.graded g h).run

/-! ### Induction, links and time -/

theorem Moves.induct (s : State) (t : Tray) (f : InductItem) : Moves s (induct t f s) := by
  unfold Machine.induct
  split
  · exact (Aside.offerEvent s _).run
  · next ht =>
    split
    · next hmap =>
      split
      · exact (Aside.offerEvent s _).run
      · next j hj => exact (Move.opens j t f (State.freeSlot_free hj) ht hmap).run
    · next i hmap =>
      split
      · exact (Aside.offerEvent s _).run
      · next hbusy =>
        split
        · exact (Aside.offerEvent s _).run
        · next j hj => exact (Move.replaces i j t f (State.freeSlot_free hj) ht hmap (fun h => hbusy (.inl h))).run

theorem Moves.admitWaiting (s : State) : Moves s s.admitWaiting := by
  rcases s.admitWaiting_cases with ⟨r, _, he⟩ | ⟨_, ⟨w, _, he⟩ | ⟨_, ⟨i, hi, he⟩ | ⟨_, he⟩⟩⟩ <;> rw [he]
  · exact Aside.run (.push (fun r => OutFrame.noConfusion) rfl rfl rfl)
  · exact Aside.run (.push (fun r => OutFrame.noConfusion) rfl rfl rfl)
  · exact (Move.admitItem i (s.nextItem_reporting hi)).run
  · exact .refl s

theorem Moves.entrySent {s : State} {f : OutFrame} {rest : List OutFrame} (h : s.outbound = f :: rest) :
    Moves s { s with outbound := rest, lineFinishing := none } := by
  refine Aside.run ⟨rfl, fun r hr => ?_⟩
  simp only [State.outgoing, Option.toList_none, List.append_nil] at hr
  rw [State.outgoing, h]
  exact List.mem_append_left _ (List.mem_cons_of_mem f hr)

theorem Moves.linkDown (s : State) (port : Port) : Moves s (match port with
    | .station p =>
      { s with stationLinks := s.stationLinks.set p .down, stationTx := s.stationTx.set p [] }.losePortLink p
    | .line => { s with lineLink := .down, lineFinishing := none }
    | .sorter => { s with sorterLink := .down, sorterTx := [] }) := by
  cases port with
  | station p =>
    have hlink : Moves s { s with stationLinks := s.stationLinks.set p .down } := Aside.run (.still rfl rfl rfl)
    exact (hlink.trans (.stationTx _ p (Nat.zero_le _))).trans (.losePortLink _ p)
  | line => exact Aside.run ⟨rfl, fun r hr => List.mem_append_left _ (by simpa [State.outgoing] using hr)⟩
  | sorter =>
    have hlink : Moves s { s with sorterLink := .down } := Aside.run (.still rfl rfl rfl)
    exact Moves.trans hlink (Move.run (.sends rfl (fun _ => Nat.le_max_right _ _) (Nat.zero_le _)))

theorem Moves.portFrameSent (s : State) (port : TxPort) : Moves s (match port with
    | .station p => { s with stationTx := s.stationTx.set p s.stationTx[p].tail }
    | .sorter => { s with sorterTx := s.sorterTx.tail }) := by
  cases port with
  | station p => exact .stationTx s p (by rw [List.length_tail]; exact Nat.sub_le _ _)
  | sorter =>
    refine Move.run (.sends rfl (fun _ => Nat.le_max_right _ _) (Nat.le_trans ?_ (Nat.le_max_right _ _)))
    show s.sorterTx.tail.length ≤ s.sorterTx.length
    rw [List.length_tail]
    exact Nat.sub_le _ _

/-- The passing of a millisecond (R96, R126, R155). -/
theorem Moves.tick (s : State) : Moves s s.tick := by
  have hport : ∀ p, s.tick.port p = { s.port p with timer := (s.port p).timer.map Nat.pred } := fun p => vecMap_getElem ..
  have hports : Moves s { s with ports := s.tick.ports } := by
    refine Move.run (.ports rfl (fun p => ?_) (fun p => ?_))
    · exact (hport p).symm ▸ portKept_tick
    · exact (hport p).symm ▸ id
  have horders : Moves { s with ports := s.tick.ports } { s with ports := s.tick.ports, orders := s.tick.orders } := by
    refine Move.run (.orders rfl fun o ho => ?_)
    obtain ⟨o', ho', rfl⟩ := List.mem_map.mp ho
    exact .inl ⟨o', ho', rfl, Nat.sub_le _ _⟩
  refine (hports.trans horders).trans (Aside.run ⟨rfl, fun r hr => List.mem_append_left _ ?_⟩)
  simpa [State.outgoing, State.tick] using hr

end Sys2Proof.Machine
end

section
/-! Every command and every step is a run of moves: the one case split over the commands, from which each law of a step follows by a case split over the moves. -/

namespace Sys2Proof.Machine

/-! ### The reads and the plain writes -/

theorem readContextAct_state (ps : List Byte) (s : State) : (readContextAct ps s).1 = s := by
  unfold readContextAct
  repeat' split
  all_goals rfl

theorem readChuteAct_state (ps : List Byte) (s : State) : (readChuteAct ps s).1 = s := by
  unfold readChuteAct
  split <;> rfl

theorem readTableAct_state (ps : List Byte) (s : State) : (readTableAct ps s).1 = s := by
  unfold readTableAct
  split <;> rfl

theorem readStatusAct_state (ps : List Byte) (s : State) : (readStatusAct ps s).1 = s := by
  unfold readStatusAct
  split <;> rfl

/-- A command that changes nothing but its result. -/
theorem Moves.reads {s t : State} (h : t = s) : Moves s t := h ▸ .refl s

theorem Moves.configureAct (s : State) (ps : List Byte) : Moves s (configureAct ps s).1 := by
  unfold Machine.configureAct
  split
  · exact .refl s
  · next g h => exact (Move.configure g ps h).run

theorem Moves.portConfigAct (s : State) (ps : List Byte) : Moves s (portConfigAct ps s).1 := by
  unfold Machine.portConfigAct
  split
  · exact .refl s
  · split
    · dsimp only
      exact .modPort_queue rfl (Nat.le_max_right _ _) fun _ h => h
    · exact .refl s

theorem Moves.goDetachAct (s : State) (ps : List Byte) : Moves s (goDetachAct ps s).1 := by
  unfold Machine.goDetachAct
  split
  · exact .refl s
  · exact .detach s _

theorem Moves.eventRouteAct (s : State) (ps : List Byte) : Moves s (eventRouteAct ps s).1 := by
  unfold Machine.eventRouteAct
  split
  · exact .refl s
  · exact Aside.run (.still rfl rfl rfl)

theorem Moves.ackAttentionAct (s : State) (ps : List Byte) : Moves s (ackAttentionAct ps s).1 := by
  unfold Machine.ackAttentionAct
  split
  · exact Aside.run (.still rfl rfl rfl)
  · exact .refl s

theorem Moves.chainClearAct (s : State) (ps : List Byte) : Moves s (chainClearAct ps s).1 := by
  unfold Machine.chainClearAct
  split
  · exact .refl s
  · split
    · exact (Aside.clearChain s _).run
    · exact .refl s

theorem Moves.softResetAct (s : State) (ps : List Byte) : Moves s (softResetAct ps s).1 := by
  unfold Machine.softResetAct
  split
  · exact Move.softReset.run
  · exact .refl s

theorem Moves.linkUp (s : State) (port : Port) : Moves s (match port with
    | .station p => { s with stationLinks := s.stationLinks.set p .up }
    | .line => { s with lineLink := .up }
    | .sorter => { s with sorterLink := .up }) := by
  cases port <;> exact Aside.run (.still rfl rfl rfl)

/-- An alternative of two runs of moves. -/
theorem Moves.ite {s t u : State} {c : Prop} [Decidable c] (ht : c → Moves s t) (hu : Moves s u) :
    Moves s (if c then t else u) := by
  split
  · next h => exact ht h
  · exact hu

theorem Moves.execDivertDone (s : State) (t : Tray) (k : Chute) : Moves s (s.sorterFrame (match s.orderAt t k with
    | some o => s.deliver t k o
    | none =>
      match s.orderFor t with
      | some o => s.deliverElsewhere t k o
      | none => s.deliverUnordered t k)) := by
  refine .sorterFrame ?_
  split
  · exact .deliver s t k _
  · split
    · exact .deliverElsewhere s t k _
    · exact .deliverUnordered s t k

theorem Aside.closeNow {s t : State} {k : Chute}
    (h : (if (s.chute k).state = .opened then some (s.callClose k .forced) else none) = some t) : Aside s t := by
  split at h
  · cases h
    exact .callClose s k _
  · cases h

theorem Aside.advance {s t : State} {k : Chute}
    (h : (if (s.chute k).state = .exhausted ∧ (s.chute k).chain ≠ [] then some (s.enterSwapping k) else none) = some t) :
    Aside s t := by
  split at h
  · cases h
    exact .enterSwapping s k
  · cases h

/-- Every command answers a next state, by a run of moves. -/
theorem exec_moves (s : State) : ∀ c : Instr, ∃ t, exec c s = .next t ∧ Moves s t
  | .induct t f => ⟨_, rfl, .induct s t f⟩
  | .configure _ ps => ⟨_, rfl, .runCommand _ _ _ (.configureAct s ps)⟩
  | .portConfig _ ps => ⟨_, rfl, .runCommand _ _ _ (.portConfigAct s ps)⟩
  | .goDetach _ ps => ⟨_, rfl, .runCommand _ _ _ (.goDetachAct s ps)⟩
  | .goListen _ ps => ⟨_, rfl, .runCommand _ _ _ (.goAct _ ps fun _ _ => .goListenStep)⟩
  | .goProbe _ ps => ⟨_, rfl, .runCommand _ _ _ (.goAct _ ps fun _ _ => .goProbeStep)⟩
  | .goReady _ ps => ⟨_, rfl, .runCommand _ _ _ (.goAct _ ps fun _ _ => .goReadyStep)⟩
  | .goPause _ ps => ⟨_, rfl, .runCommand _ _ _ (.goAct _ ps fun _ _ => .goPauseStep)⟩
  | .goResume _ ps => ⟨_, rfl, .runCommand _ _ _ (.goAct _ ps fun _ _ => .goResumeStep)⟩
  | .goListenToReady _ ps => ⟨_, rfl, .runCommand _ _ _ (.goAct _ ps fun _ _ => .goCompoundStep)⟩
  | .writeWeights _ ps => ⟨_, rfl, .runCommand _ _ _ (.writeAct (code := 0x04) (ps := ps) rfl)⟩
  | .writeProfile _ ps => ⟨_, rfl, .runCommand _ _ _ (.writeAct (code := 0x05) (ps := ps) rfl)⟩
  | .writeReasons _ ps => ⟨_, rfl, .runCommand _ _ _ (.writeAct (code := 0x06) (ps := ps) rfl)⟩
  | .writeWindow _ ps => ⟨_, rfl, .runCommand _ _ _ (.writeAct (code := 0x07) (ps := ps) rfl)⟩
  | .writeDefault _ ps => ⟨_, rfl, .runCommand _ _ _ (.writeAct (code := 0x08) (ps := ps) rfl)⟩
  | .tableWrite => ⟨_, rfl, .ite (fun _ => (Moves.takeWrite s).trans Move.startGrading.run) (.refl s)⟩
  | .chainLoad _ ps => ⟨_, rfl, .runCommand _ _ _ (.chainLoadAct s ps)⟩
  | .chainClear _ ps => ⟨_, rfl, .runCommand _ _ _ (.chainClearAct s ps)⟩
  | .enable _ ps => ⟨_, rfl, .runCommand _ _ _ (.controlAct _ ps fun k _ h => by cases h; exact .modChute s k _)⟩
  | .disable _ ps => ⟨_, rfl, .runCommand _ _ _ (.controlAct _ ps fun k _ h => by cases h; exact .modChute s k _)⟩
  | .closeNow _ ps => ⟨_, rfl, .runCommand _ _ _ (.controlAct _ ps fun _ _ => .closeNow)⟩
  | .advance _ ps => ⟨_, rfl, .runCommand _ _ _ (.controlAct _ ps fun _ _ => .advance)⟩
  | .abandonTray _ ps => ⟨_, rfl, .runCommand _ _ _ (.abandonTrayAct s ps)⟩
  | .readContext _ ps => ⟨_, rfl, .runCommand _ _ _ (.reads (readContextAct_state ps s))⟩
  | .readChute _ ps => ⟨_, rfl, .runCommand _ _ _ (.reads (readChuteAct_state ps s))⟩
  | .readTable _ ps => ⟨_, rfl, .runCommand _ _ _ (.reads (readTableAct_state ps s))⟩
  | .readStatus _ ps => ⟨_, rfl, .runCommand _ _ _ (.reads (readStatusAct_state ps s))⟩
  | .eventRoute _ ps => ⟨_, rfl, .runCommand _ _ _ (.eventRouteAct s ps)⟩
  | .ackAttention _ ps => ⟨_, rfl, .runCommand _ _ _ (.ackAttentionAct s ps)⟩
  | .softReset _ ps => ⟨_, rfl, .runCommand _ _ _ (.softResetAct s ps)⟩
  | .badCommand _ _ _ => ⟨_, rfl, .runCommand _ _ _ (.refl s)⟩
  | .obsDefect _ _ _ _ _ => ⟨_, rfl, .stationFrame fun hd hl => .joinQueue hd hl _⟩
  | .obsTag _ _ _ _ => ⟨_, rfl, .stationFrame fun hd hl => .joinQueue hd hl _⟩
  | .obsWeight _ _ _ => ⟨_, rfl, .stationFrame fun hd hl => .joinQueue hd hl _⟩
  | .itemDone _ _ => ⟨_, rfl, .stationFrame fun hd hl => .joinQueue hd hl _⟩
  | .announce p cls cap => ⟨_, rfl, .stationFrame fun _ _ => .takeAnnounce s p cls cap⟩
  | .pauseAck p => ⟨_, rfl, .stationFrame fun _ _ => .ite (fun h => .endPause h _) (.refl s)⟩
  | .resumeAck p => ⟨_, rfl, .stationFrame fun _ _ => .takeResumeAck s p⟩
  | .idle _ => ⟨_, rfl, .stationFrame fun _ _ => .refl s⟩
  | .frameRejected port bytes => ⟨_, rfl, by
      split
      · exact .ite (fun _ => (Aside.offerEvent s _).run) (.refl s)
      · exact .refl s⟩
  | .probeWindowExpiry p => ⟨_, rfl, .ite (fun h => .endProbe (PortRecord.ranOut_state h) _ _ _) (.refl s)⟩
  | .pauseTimeout p => ⟨_, rfl, .ite (fun h => .endPause (PortRecord.ranOut_state h) _) (.refl s)⟩
  | .resumeTimeout p => ⟨_, rfl, .ite (fun _ => .enterFault s p _ _) (.refl s)⟩
  | .takeDefectRecord p => ⟨_, rfl, .takeRecord fun b h => by cases b <;> cases h; rfl⟩
  | .takeTagRecord p => ⟨_, rfl, .takeRecord fun b h => by cases b <;> cases h; rfl⟩
  | .takeWeightRecord p => ⟨_, rfl, .takeRecord fun b h => by cases b <;> cases h; rfl⟩
  | .takeItemDoneRecord p => ⟨_, rfl, .takeRecord fun b h => by cases b <;> cases h; rfl⟩
  | .gradingStart => ⟨_, rfl, Move.startGrading.run⟩
  | .gradingCompletion => ⟨_, rfl, by
      split
      · exact .refl s
      · next g h => exact (Moves.completeContext h).trans (.handOver _)⟩
  | .decisionReq t => ⟨_, rfl, .sorterFrame ((Moves.impliedMiss s t).trans (.answerRequest _ t))⟩
  | .divertDone t k => ⟨_, rfl, .execDivertDone s t k⟩
  | .divertMissed t k => ⟨_, rfl, .sorterFrame (by
      split
      · exact .missOrder s _
      · exact (Aside.offerEvent s _).run)⟩
  | .orderExpiry t k => ⟨_, rfl, by
      split
      · exact .thenEvent (.missOrder s _) _
      · exact .refl s⟩
  | .toteFull k => ⟨_, rfl, .sorterFrame (.ite (fun _ => (Aside.callClose s k _).run) (Aside.offerEvent s _).run)⟩
  | .toteInPlace k x => ⟨_, rfl, .sorterFrame (Aside.toteInPlace s k x).run⟩
  | .chuteJam k => ⟨_, rfl, .sorterFrame (.thenEvent (Aside.modChute s k _).run _)⟩
  | .chuteClear k => ⟨_, rfl, .sorterFrame (.thenEvent (Aside.modChute s k _).run _)⟩
  | .entrySent => ⟨_, rfl, by
      split
      · next h => exact (Moves.entrySent h).trans (.admitWaiting _)
      · exact .refl s⟩
  | .portFrameSent port => ⟨_, rfl, .portFrameSent s port⟩
  | .linkUp port => ⟨_, rfl, .linkUp s port⟩
  | .linkDown port => ⟨_, rfl, .linkDown s port⟩
  | .powerOnReset => ⟨_, rfl, Move.powerOn.run⟩

/-- Every step answers a next state, by a run of moves. -/
theorem step_moves {s t : State} (h : step s = .next t) : Moves s t := by
  have hexec : ∀ c u, exec c u = .next t → Moves u t := by
    intro c u hc
    obtain ⟨v, hv, hm⟩ := exec_moves u c
    rw [hv] at hc
    cases hc
    exact hm
  unfold step at h
  split at h
  · split at h
    · exact hexec _ s h
    · cases h
      exact .tick s
  · next c rest _ =>
    have hrest : Moves s { s with pending := rest } := Aside.run (.still rfl rfl rfl)
    exact hrest.trans (hexec c _ h)

/-- A law that every move keeps is kept by every step. -/
theorem step_keeps {P : State → Prop} (h : ∀ s t, Move s t → P s → P t) {s t : State} (hs : P s) (ht : step s = .next t) :
    P t :=
  (step_moves ht).keeps h hs

end Sys2Proof.Machine
end

section
/-! Every step keeps the ports' laws (R125, R126, R138, R139, R141, R186). -/

namespace Sys2Proof.Machine

/-! ### What the life of a context leaves of contexts and ports -/

/-- An opening changes the item context table alone. -/
theorem State.openContext_frame (s : State) (j : ContextIndex) (t : Tray) (f : InductItem) : s.openContext j t f = { s with
    contexts := (s.openContext j t f).contexts, trayMap := (s.openContext j t f).trayMap,
    gradingQueue := (s.openContext j t f).gradingQueue, inFlight := (s.openContext j t f).inFlight } := by
  unfold State.openContext
  dsimp only
  split
  · rw [State.seal_frame]
    rfl
  · rfl

@[simp] theorem State.closeContext_port (s : State) (i : ContextIndex) (o : ItemOutcome) (d : Option Delivery) (p : StationPort) :
    (s.closeContext i o d).port p = s.port p := by rw [State.closeContext_frame]; rfl

@[simp] theorem State.openContext_port (s : State) (j : ContextIndex) (t : Tray) (f : InductItem) (p : StationPort) :
    (s.openContext j t f).port p = s.port p := by rw [State.openContext_frame]; rfl

@[simp] theorem State.seal_port (s : State) (i : ContextIndex) (p : StationPort) : (s.seal i).port p = s.port p := by
  rw [State.seal_frame]; rfl

@[simp] theorem State.startGrading_port (s : State) (p : StationPort) : s.startGrading.port p = s.port p := by
  rw [State.startGrading_frame]; rfl

@[simp] theorem State.withdraw_port (s : State) (p q : StationPort) : (s.withdraw p).port q = s.port q := by
  rw [State.withdraw_frame]; rfl

@[simp] theorem State.writeTable_port (s : State) (w : TableChange) (p : StationPort) : (s.writeTable w).port p = s.port p := by
  rw [State.writeTable_frame]; rfl

/-- A port record after a soft reset is DETACHED, with its classes and capability (R142). -/
theorem State.softReset_port (s : State) (p : StationPort) : s.softReset.port p = (s.port p).softReset := vecMap_getElem ..

theorem PortRecord.softReset_sound (P : PortRecord) : PortSound P.softReset := by
  unfold PortSound PortRecord.softReset
  simp

/-- A context that leaves its slot is written as closed, or freed. -/
theorem State.closeContext_self (s : State) (i : ContextIndex) (o : ItemOutcome) (d : Option Delivery) :
    (s.closeContext i o d).context i = (s.context i).closedAs o d s.stampCounter ∨ (s.closeContext i o d).context i = {} := by
  rcases s.closeContext_cases i o d with ⟨_, h⟩ | ⟨_, h⟩ <;> rw [h]
  · exact .inr (State.context_modContext_self (s.withoutContext i) i (fun _ => {}))
  · exact .inl (State.context_modContext_self (s.withoutContext i) i _)

theorem State.closeContext_other (s : State) {i j : ContextIndex} (h : j ≠ i) (o : ItemOutcome) (d : Option Delivery) :
    (s.closeContext i o d).context j = s.context j := by
  have hother : ∀ f, ((s.withoutContext i).modContext i f).context j = s.context j := fun f => by
    rw [State.context_modContext, if_neg (Ne.symm h)]
    rfl
  rcases s.closeContext_cases i o d with ⟨_, he⟩ | ⟨_, he⟩ <;> rw [he]
  · exact hother (fun _ => {})
  · exact hother _

/-- The start of a grading makes one context GRADING, or changes none. -/
theorem State.startGrading_context (s : State) (i : ContextIndex) :
    s.startGrading.context i = s.context i ∨ s.startGrading.context i = { s.context i with state := .grading } := by
  rcases s.startGrading_cases with ⟨j, rest, _, _, h⟩ | ⟨_, h⟩ <;> rw [h]
  · rw [State.context_modContext]
    split
    · next hij => exact .inr (hij ▸ rfl)
    · exact .inl rfl
  · exact .inl rfl

/-- The contexts that join the queue change no more than their start of a grading. -/
theorem State.enqueue_context (s : State) (is : List ContextIndex) (i : ContextIndex) :
    (s.enqueue is).context i = s.context i ∨ (s.enqueue is).context i = { s.context i with state := .grading } := by
  unfold State.enqueue
  dsimp only
  split
  · exact State.startGrading_context _ i
  · exact .inl rfl

/-- A seal changes the state of contexts alone, and makes none OPEN. -/
theorem State.seal_context (s : State) (i j : ContextIndex) : (s.seal i).context j = s.context j ∨
    ∃ st, st ≠ .opened ∧ (s.seal i).context j = { s.context j with state := st } := by
  unfold State.seal
  split
  · rcases State.enqueue_context (s.modContext i (fun c => { c with state := .queued })) [i] j with h | h <;>
      rw [h, State.context_modContext]
    · split
      · next hij => exact .inr ⟨.queued, by decide, hij ▸ rfl⟩
      · exact .inl rfl
    · refine .inr ⟨.grading, by decide, ?_⟩
      split
      · next hij => exact hij ▸ rfl
      · rfl
  · exact .inl rfl

/-- A withdrawal leaves a context as the withdrawal writes it, or makes that GRADING. -/
theorem State.withdraw_context (s : State) (p : StationPort) (i : ContextIndex) :
    (s.withdraw p).context i = (s.context i).withdrawn p ∨
      (s.withdraw p).context i = { (s.context i).withdrawn p with state := .grading } := by
  rw [State.withdraw_eq, ← State.withdrawing_context]
  split
  · exact State.startGrading_context _ i
  · exact .inl rfl

/-- An opening writes the context of R7 into its slot, OPEN or sealed, and seals or starts no other that is not so. -/
theorem State.openContext_context (s : State) (j i : ContextIndex) (t : Tray) (f : InductItem) :
    let c := if j = i then openedContext t f s.readyPorts else s.context i
    (s.openContext j t f).context i = c ∨ ∃ st, st ≠ .opened ∧ (s.openContext j t f).context i = { c with state := st } := by
  have hc : ((s.modContext j (fun _ => openedContext t f s.readyPorts)).setMap t (some j)).context i =
      if j = i then openedContext t f s.readyPorts else s.context i := by
    rw [State.setMap_context, State.context_modContext]
  dsimp only
  rw [← hc]
  unfold State.openContext
  dsimp only
  split
  · exact State.seal_context _ j i
  · exact .inl rfl

/-! ### Ports keep what their state allows (R125, R126, R138, R141) -/

theorem Move.keeps_portsSound {s t : State} (m : Move s t) (hs : ∀ p, PortSound (s.port p)) : ∀ p, PortSound (t.port p) := by
  intro p
  cases m with
  | aside h =>
    obtain ⟨he, -⟩ := h
    rw [he]
    exact hs p
  | orders frame => rw [frame]; exact hs p
  | sends frame => rw [frame]; exact hs p
  | ports frame kept => exact (kept p).sound (hs p)
  | withdrawn q f kept =>
    rw [State.withdraw_port, State.port_modPort]
    split
    · exact kept.sound (hs q)
    · exact hs p
  | context i f => exact hs p
  | seals i => rw [State.seal_port]; exact hs p
  | startGrading => rw [State.startGrading_port]; exact hs p
  | close i o d => rw [State.closeContext_port]; exact hs p
  | opens j t f => rw [State.openContext_port]; exact hs p
  | replaces i j t f => rw [State.openContext_port, State.closeContext_port]; exact hs p
  | admitItem i => exact hs p
  | graded g => exact hs p
  | abandoned g => rw [State.closeContext_port]; exact hs p
  | writeTable w => rw [State.writeTable_port]; exact hs p
  | configure g => exact hs p
  | softReset => rw [State.softReset_port]; exact (s.port p).softReset_sound
  | powerOn =>
    show PortSound (State.reset.port p)
    rw [State.reset_port]
    exact portSound_blank

/-! ### OPEN contexts expect READY and PAUSING ports (R21, R139, R186) -/

/-- ExpectedSound in the words of a withdrawal: a port that some context would lose is READY or PAUSING. -/
theorem expectedSound_iff (s : State) : ExpectedSound s ↔ ∀ i p, (s.context i).losesPort p = true →
    (s.port p).state = .ready ∨ (s.port p).state = .pausing := by
  simp only [ExpectedSound, Context.losesPort_iff, and_imp]

/-- No context comes to expect a port, and no port leaves READY and PAUSING. -/
theorem ExpectedSound.mono {s t : State} (hs : ExpectedSound s)
    (hc : ∀ i p, (t.context i).losesPort p = true → (s.context i).losesPort p = true)
    (hp : ∀ p, (s.port p).state = .ready ∨ (s.port p).state = .pausing → (t.port p).state = .ready ∨ (t.port p).state = .pausing) :
    ExpectedSound t :=
  (expectedSound_iff t).mpr fun i p h => hp p ((expectedSound_iff s).mp hs i p (hc i p h))

theorem Context.losesPort_opened {c : Context} {p : StationPort} (h : c.losesPort p = true) : c.state = .opened :=
  ((c.losesPort_iff p).mp h).1

/-- A context that is no longer OPEN loses no port. -/
theorem Context.losesPort_state {c c' : Context} {p : StationPort}
    (hc : c' = c ∨ ∃ st, st ≠ .opened ∧ c' = { c with state := st }) (h : c'.losesPort p = true) : c.losesPort p = true := by
  rcases hc with rfl | ⟨st, hst, rfl⟩
  · exact h
  · exact absurd (Context.losesPort_opened h) hst

/-- A withdrawn port is lost no more, and no other comes to be. -/
theorem Context.losesPort_withdrawn {c : Context} {p q : StationPort} (h : (c.withdrawn p).losesPort q = true) :
    q ≠ p ∧ c.losesPort q = true := by
  unfold Context.withdrawn at h
  split at h
  · next hl =>
    obtain ⟨hopen, _, _⟩ := (c.losesPort_iff p).mp hl
    obtain ⟨_, hexp, hrep⟩ := (Context.losesPort_iff q _).mp h
    obtain ⟨hne, hexp⟩ := (portIn_portErase p q c.expected).mp hexp
    exact ⟨hne, (c.losesPort_iff q).mpr ⟨hopen, hexp, hrep⟩⟩
  · next hl => exact ⟨fun e => hl (e ▸ h), h⟩

/-- A change of a context in its slot brings no port that it would lose. -/
theorem ContextKept.losesPort {s : State} {c c' : Context} (hk : ContextKept s c c') {p : StationPort}
    (h : c'.losesPort p = true) : c.losesPort p = true := by
  obtain ⟨hopen, hexp, hrep⟩ := (c'.losesPort_iff p).mp h
  refine (c.losesPort_iff p).mpr ⟨?_, hk.expected ▸ hexp, ?_⟩
  · rcases hk.state with he | ⟨_, he⟩ | ⟨_, he⟩ <;> rw [he] at hopen
    · exact hopen
    · cases hopen
    · cases hopen
  · cases hr : portIn p c.reported with
    | false => rfl
    | true => rw [hk.reported p hr] at hrep; cases hrep

theorem State.closeContext_losesPort {s : State} {i j : ContextIndex} {o : ItemOutcome} {d : Option Delivery}
    {p : StationPort} (h : ((s.closeContext i o d).context j).losesPort p = true) : (s.context j).losesPort p = true := by
  by_cases hj : j = i
  · subst hj
    rcases s.closeContext_self j o d with he | he <;> rw [he] at h <;> cases Context.losesPort_opened h
  · rwa [State.closeContext_other s hj] at h

/-- A context that opens expects READY ports alone (R11). -/
theorem ExpectedSound.openContext {s : State} (hs : ExpectedSound s) (j : ContextIndex) (t : Tray) (f : InductItem) :
    ExpectedSound (s.openContext j t f) := by
  rw [expectedSound_iff]
  intro i p h
  rw [State.openContext_port]
  replace h := Context.losesPort_state (s.openContext_context j i t f) h
  split at h
  · obtain ⟨_, hexp, _⟩ := (Context.losesPort_iff p _).mp h
    exact .inl ((portIn_readyPorts s p).mp hexp)
  · exact (expectedSound_iff s).mp hs i p h

theorem Move.keeps_expectedSound {s t : State} (m : Move s t) (hs : ExpectedSound s) : ExpectedSound t := by
  cases m with
  | aside h =>
    obtain ⟨he, -⟩ := h
    rw [he]
    exact hs
  | orders frame => rw [frame]; exact hs
  | sends frame => rw [frame]; exact hs
  | ports frame _ expected => exact hs.mono (fun i p h => by rw [frame] at h; exact h) expected
  | withdrawn q f kept =>
    rw [expectedSound_iff]
    intro i p h
    have hl : (((s.modPort q f).context i).withdrawn q).losesPort p = true :=
      Context.losesPort_state (((s.modPort q f).withdraw_context q i).imp id fun he => ⟨.grading, by decide, he⟩) h
    obtain ⟨hne, hl⟩ := Context.losesPort_withdrawn hl
    rw [State.withdraw_port, State.port_modPort, if_neg (Ne.symm hne)]
    exact (expectedSound_iff s).mp hs i p hl
  | context i f kept =>
    refine hs.mono (fun j p h => ?_) fun p => id
    rw [State.context_modContext] at h
    split at h
    · next hij => exact hij ▸ kept.losesPort h
    · exact h
  | seals i => exact hs.mono (fun j p => Context.losesPort_state (s.seal_context i j)) fun p => by rw [State.seal_port]; exact id
  | startGrading =>
    exact hs.mono (fun j p => Context.losesPort_state ((s.startGrading_context j).imp id fun he => ⟨.grading, by decide, he⟩))
      fun p => by rw [State.startGrading_port]; exact id
  | close i o d => exact hs.mono (fun j p => State.closeContext_losesPort) fun p => by rw [State.closeContext_port]; exact id
  | opens j t f => exact hs.openContext j t f
  | replaces i j t f =>
    have hclosed : ExpectedSound (s.closeContext i .replaced none) :=
      hs.mono (fun j p => State.closeContext_losesPort) fun p => by rw [State.closeContext_port]; exact id
    exact hclosed.openContext j t f
  | admitItem i h =>
    refine hs.mono (fun j p hl => ?_) fun p => id
    rw [State.admitItem, State.context_modContext] at hl
    split at hl
    · cases Context.losesPort_opened hl
    · exact hl
  | graded g h =>
    refine hs.mono (fun j p hl => ?_) fun p => id
    rw [State.context_modContext] at hl
    split at hl
    · cases Context.losesPort_opened hl
    · exact hl
  | abandoned g h =>
    exact hs.mono (fun j p hl => State.closeContext_losesPort (s := { s with inFlight := none }) hl) fun p => by
      rw [State.closeContext_port]; exact id
  | writeTable w => rw [State.writeTable_frame]; exact hs
  | configure g => exact hs
  | softReset => exact fun i p h => absurd (State.reset_context i ▸ h) (by decide)
  | powerOn => exact fun i p h => absurd (State.reset_context i ▸ h) (by decide)

/-- Settles O58: every move keeps the two laws, so every step does. -/
theorem stepKeepsPortsSound : Obligations.StepKeepsPortsSound := fun _ _ ht =>
  ⟨fun hs => step_keeps (P := fun s => ∀ p, PortSound (s.port p)) (fun _ _ => Move.keeps_portsSound) hs ht,
    fun hs => step_keeps (fun _ _ => Move.keeps_expectedSound) hs ht⟩

end Sys2Proof.Machine
end

section
/-! Every step keeps tray map, grading queue and grading in flight in agreement with the contexts (R1, R2, R27). -/

namespace Sys2Proof.Machine

/-! ### The item context table's laws in terms of what changes -/

/-- A context plays the same part in tray map, grading queue and grading unit. -/
structure SameRole (c c' : Context) : Prop where
  live : c'.state.live = c.state.live
  tray : c.state.live = true → c'.tray = c.tray
  queued : c'.state = .queued ↔ c.state = .queued
  grading : c'.state = .grading ↔ c.state = .grading

theorem SameRole.refl (c : Context) : SameRole c c := ⟨rfl, fun _ => rfl, Iff.rfl, Iff.rfl⟩

/-- A REPORTING and a FREE context have no part in them. -/
theorem SameRole.of_reporting {c c' : Context} (h : c.state = .reporting) (h' : c'.state = .free) : SameRole c c' where
  live := by rw [h, h']; rfl
  tray hl := by rw [h] at hl; cases hl
  queued := by rw [h, h']; decide
  grading := by rw [h, h']; decide

/-- The tray map is sound where it is as before and the live contexts are, with their trays. -/
theorem TrayMapSound.of_same {s t : State} (hs : TrayMapSound s) (hmap : ∀ t', t.lookup t' = s.lookup t')
    (hc : ∀ i, (t.context i).state.live = (s.context i).state.live ∧
      ((s.context i).state.live = true → (t.context i).tray = (s.context i).tray)) : TrayMapSound t := by
  obtain ⟨hiff, hno⟩ := hs
  refine ⟨fun t' i => ?_, by rw [hmap]; exact hno⟩
  rw [hmap, hiff, (hc i).1]
  exact and_congr_right fun hl => by rw [(hc i).2 hl]

/-- A move that keeps map, queue and grading in flight, and every context's role, keeps the laws. -/
theorem ContextsSound.of_same {s t : State} (hs : ContextsSound s) (hmap : ∀ t', t.lookup t' = s.lookup t')
    (hq : t.gradingQueue = s.gradingQueue) (hf : t.inFlight = s.inFlight) (hc : ∀ i, SameRole (s.context i) (t.context i)) :
    ContextsSound t := by
  obtain ⟨htray, ⟨hnodup, hqueue⟩, hgrading⟩ := hs
  refine ⟨htray.of_same hmap fun i => ⟨(hc i).live, (hc i).tray⟩, ⟨by rw [hq]; exact hnodup, fun i => ?_⟩, fun i => ?_⟩
  · rw [hq, hqueue, (hc i).queued]
  · rw [hf, (hc i).grading]
    exact hgrading i

/-- OPEN contexts that become QUEUED at the tail of the queue keep the laws (R2, R20). -/
theorem ContextsSound.joins {s t : State} (hs : ContextsSound s) {is : List ContextIndex} (hnodup : is.Nodup)
    (hmap : ∀ t', t.lookup t' = s.lookup t') (hq : t.gradingQueue = s.gradingQueue ++ is) (hf : t.inFlight = s.inFlight)
    (hin : ∀ i ∈ is, (s.context i).state = .opened ∧ (t.context i).state = .queued ∧ (t.context i).tray = (s.context i).tray)
    (hout : ∀ i, i ∉ is → SameRole (s.context i) (t.context i)) : ContextsSound t := by
  obtain ⟨htray, ⟨hold, hqueue⟩, hgrading⟩ := hs
  refine ⟨htray.of_same hmap fun i => ?_, ⟨?_, fun i => ?_⟩, fun i => ?_⟩
  · by_cases hi : i ∈ is
    · obtain ⟨ho, hqd, htr⟩ := hin i hi
      exact ⟨by rw [ho, hqd]; rfl, fun _ => htr⟩
    · exact ⟨(hout i hi).live, (hout i hi).tray⟩
  · rw [hq]
    refine List.nodup_append.mpr ⟨hold, hnodup, fun i hi j hj he => ?_⟩
    subst he
    have h := (hqueue i).mp hi
    rw [(hin i hj).1] at h
    cases h
  · rw [hq, List.mem_append]
    by_cases hi : i ∈ is
    · simp [hi, (hin i hi).2.1]
    · rw [(hout i hi).queued, ← hqueue]
      simp [hi]
  · rw [hf]
    by_cases hi : i ∈ is
    · obtain ⟨ho, hqd, _⟩ := hin i hi
      have h := hgrading i
      rw [ho] at h
      rw [hqd]
      exact ⟨fun h' => (by cases h'), fun h' => absurd (h.mpr h') (by decide)⟩
    · rw [(hout i hi).grading]
      exact hgrading i

/-- The head of the queue that the idle unit takes keeps the laws (R27). -/
theorem ContextsSound.startGrading {s : State} (hs : ContextsSound s) : ContextsSound s.startGrading := by
  rcases s.startGrading_cases with ⟨i, rest, hf, hq, he⟩ | ⟨_, he⟩ <;> rw [he]
  · obtain ⟨htray, ⟨hnodup, hqueue⟩, hgrading⟩ := hs
    rw [hq] at hnodup hqueue
    obtain ⟨hnot, hrest⟩ := List.nodup_cons.mp hnodup
    have hi : (s.context i).state = .queued := (hqueue i).mp List.mem_cons_self
    generalize ht : State.modContext _ i _ = t
    have hctx : ∀ j, t.context j = if i = j then { s.context i with state := .grading } else s.context j := fun j => by
      rw [← ht, State.context_modContext]
      rfl
    have hself : t.context i = { s.context i with state := .grading } := by rw [hctx, if_pos rfl]
    have hother : ∀ j, j ≠ i → t.context j = s.context j := fun j hj => by rw [hctx, if_neg (Ne.symm hj)]
    refine ⟨htray.of_same (fun t' => by rw [← ht]; rfl) fun j => ?_, ⟨by rw [← ht]; exact hrest, fun j => ?_⟩, fun j => ?_⟩
    · by_cases hj : j = i
      · subst hj
        rw [hself, hi]
        exact ⟨rfl, fun _ => rfl⟩
      · rw [hother j hj]
        exact ⟨rfl, fun _ => rfl⟩
    · have hqt : t.gradingQueue = rest := by rw [← ht]; rfl
      rw [hqt]
      by_cases hj : j = i
      · subst hj
        rw [hself]
        simp [hnot]
      · rw [hother j hj, ← hqueue j]
        simp [hj]
    · have hft : t.inFlight.map Grading.context = some i := by rw [← ht]; rfl
      rw [hft]
      by_cases hj : j = i
      · subst hj
        simp [hself]
      · have h := hgrading j
        rw [hf] at h
        rw [hother j hj, h]
        simp [Ne.symm hj]
  · exact hs

/-- A sealed context joins the tail of the queue (R20). -/
theorem ContextsSound.joinsQueue {s : State} (hs : ContextsSound s) {i : ContextIndex} (ho : (s.context i).state = .opened) :
    ContextsSound { s.modContext i (fun c => { c with state := .queued }) with gradingQueue := s.gradingQueue ++ [i] } := by
  generalize ht : State.mk .. = t
  have hctx : ∀ j, t.context j = if i = j then { s.context i with state := .queued } else s.context j := fun j =>
    (congrArg (State.context · j) ht.symm).trans (s.context_modContext i j (fun c => { c with state := .queued }))
  refine hs.joins (is := [i]) (List.nodup_cons.mpr ⟨List.not_mem_nil, List.nodup_nil⟩) (fun _ => by rw [← ht]; rfl) (by rw [← ht]) (by rw [← ht]; rfl)
    (fun j hj => ?_) fun j hj => ?_
  · obtain rfl := List.mem_singleton.mp hj
    rw [hctx, if_pos rfl]
    exact ⟨ho, rfl, rfl⟩
  · rw [hctx, if_neg fun h => hj (List.mem_singleton.mpr h.symm)]
    exact .refl _

theorem ContextsSound.seal {s : State} (hs : ContextsSound s) (i : ContextIndex) : ContextsSound (s.seal i) := by
  unfold State.seal
  split
  · next ho =>
    unfold State.enqueue
    dsimp only
    split
    · exact (hs.joinsQueue ho).startGrading
    · exact hs.joinsQueue ho
  · exact hs

/-- A context outside those sealed is as it was, but for its expected ports (R21). -/
theorem Context.withdrawn_sameRole {c : Context} {p : StationPort} (h : ¬ c.sealsWithout p = true) :
    SameRole c (c.withdrawn p) := by
  unfold Context.withdrawn
  split
  · next hl =>
    have ho := Context.losesPort_opened hl
    exact ⟨by rw [ho], fun _ => rfl, by rw [ho], by rw [ho]⟩
  · exact .refl c

theorem ContextsSound.withdraw {s : State} (hs : ContextsSound s) (p : StationPort) : ContextsSound (s.withdraw p) := by
  have hjoined : ContextsSound (s.withdrawing p) := by
    refine hs.joins (s.sealedBy_nodup p) (fun _ => rfl) rfl rfl (fun i hi => ?_) fun i hi => ?_
    · have hseals := (s.mem_sealedBy p i).mp hi
      have hl := ((s.context i).sealsWithout_iff p).mp hseals |>.1
      rw [State.withdrawing_context, Context.withdrawn, if_pos hl, if_pos hseals]
      exact ⟨Context.losesPort_opened hl, rfl, rfl⟩
    · rw [State.withdrawing_context]
      exact Context.withdrawn_sameRole fun h => hi ((s.mem_sealedBy p i).mpr h)
  rw [State.withdraw_eq]
  split
  · exact hjoined.startGrading
  · exact hjoined

/-! ### Closes and openings -/

/-- A live context that leaves its slot, the tray map, the queue and the grading unit keeps the laws (R1, R3). -/
theorem ContextsSound.leaves {s t : State} (hs : ContextsSound s) {i : ContextIndex} (hlive : (s.context i).state.live = true)
    (hmap : ∀ t', t.lookup t' = if (s.context i).tray = t' then none else s.lookup t')
    (hq : t.gradingQueue = if (s.context i).state = .queued then s.gradingQueue.erase i else s.gradingQueue)
    (hf : ∀ j, j ≠ i → (t.inFlight.map Grading.context = some j ↔ s.inFlight.map Grading.context = some j))
    (hfi : t.inFlight.map Grading.context ≠ some i)
    (hi : (t.context i).state = .reporting ∨ (t.context i).state = .free)
    (hother : ∀ j, j ≠ i → t.context j = s.context j) : ContextsSound t := by
  obtain ⟨⟨hiff, hno⟩, ⟨hnodup, hqueue⟩, hgrading⟩ := hs
  have hdead : (t.context i).state.live = false ∧ (t.context i).state ≠ .queued ∧ (t.context i).state ≠ .grading := by
    rcases hi with h | h <;> rw [h] <;> exact ⟨rfl, by decide, by decide⟩
  obtain ⟨hnl, hnq, hng⟩ := hdead
  refine ⟨⟨fun t' j => ?_, ?_⟩, ⟨?_, fun j => ?_⟩, fun j => ?_⟩
  · rw [hmap]
    have hmine := (hiff (s.context i).tray i).mpr ⟨hlive, rfl⟩
    by_cases hj : j = i
    · subst hj
      rw [hnl]
      split
      · simp
      · next ht => simp [hiff, ht]
    · rw [hother j hj, ← hiff]
      split
      · next ht =>
        subst ht
        rw [hmine]
        simp [Ne.symm hj]
      · exact Iff.rfl
  · rw [hmap, hno]
    split <;> rfl
  · rw [hq]
    split
    · exact hnodup.erase i
    · exact hnodup
  · rw [hq]
    by_cases hj : j = i
    · subst hj
      split
      · simp [hnodup.not_mem_erase, hnq]
      · next hnot => simp [hqueue, hnot, hnq]
    · rw [hother j hj, ← hqueue j]
      split
      · exact List.mem_erase_of_ne hj
      · exact Iff.rfl
  · by_cases hj : j = i
    · subst hj
      simp [hng, hfi]
    · rw [hother j hj, hf j hj]
      exact hgrading j

theorem State.closeContext_lookup (s : State) (i : ContextIndex) (o : ItemOutcome) (d : Option Delivery) (t : Tray) :
    (s.closeContext i o d).lookup t = if (s.context i).tray = t then none else s.lookup t := by
  rw [← State.lookup_setMap]
  rcases s.closeContext_cases i o d with ⟨_, h⟩ | ⟨_, h⟩ <;> rw [h] <;> rfl

theorem State.closeContext_gradingQueue (s : State) (i : ContextIndex) (o : ItemOutcome) (d : Option Delivery) :
    (s.closeContext i o d).gradingQueue =
      if (s.context i).state = .queued then s.gradingQueue.erase i else s.gradingQueue := by
  rcases s.closeContext_cases i o d with ⟨_, h⟩ | ⟨_, h⟩ <;> rw [h] <;> rfl

@[simp] theorem State.closeContext_inFlight (s : State) (i : ContextIndex) (o : ItemOutcome) (d : Option Delivery) :
    (s.closeContext i o d).inFlight = s.inFlight := by rw [State.closeContext_frame]

theorem State.closeContext_state (s : State) (i : ContextIndex) (o : ItemOutcome) (d : Option Delivery) :
    ((s.closeContext i o d).context i).state = .reporting ∨ ((s.closeContext i o d).context i).state = .free :=
  (s.closeContext_self i o d).imp (congrArg Context.state) (congrArg Context.state)

/-- A context that may be closed is live (R1, R4). -/
theorem State.closable_live {s : State} (hs : TrayMapSound s) {i : ContextIndex} (h : s.closable i) :
    (s.context i).state.live = true := by
  obtain ⟨_, hl | ⟨t, ht⟩⟩ := h
  · exact hl
  · exact ((hs.1 t i).mp ht).1

theorem ContextsSound.closeContext {s : State} (hs : ContextsSound s) {i : ContextIndex} (h : s.closable i)
    (o : ItemOutcome) (d : Option Delivery) : ContextsSound (s.closeContext i o d) := by
  refine hs.leaves (State.closable_live hs.1 h) (s.closeContext_lookup i o d) (s.closeContext_gradingQueue i o d)
    (fun j _ => by rw [State.closeContext_inFlight]) ?_ (s.closeContext_state i o d)
    fun j hj => s.closeContext_other hj o d
  rw [State.closeContext_inFlight]
  exact fun hf => h.1 ((hs.2.2 i).mpr hf)

/-- The context in flight that closes leaves the unit idle (R46). -/
theorem ContextsSound.abandoned {s : State} (hs : ContextsSound s) {g : Grading} (h : s.inFlight = some g) :
    ContextsSound (State.closeContext { s with inFlight := none } g.context .abandoned none) := by
  have hg : (s.context g.context).state = .grading := (hs.2.2 g.context).mpr (by rw [h]; rfl)
  refine hs.leaves (i := g.context) (by rw [hg]; rfl) (State.closeContext_lookup _ _ _ _)
    (State.closeContext_gradingQueue _ _ _ _) (fun j hj => ?_) ?_ (State.closeContext_state _ _ _ _)
    fun j hj => State.closeContext_other _ hj _ _
  · rw [State.closeContext_inFlight, h]
    simp [Ne.symm hj]
  · rw [State.closeContext_inFlight]
    simp

/-- The completed grading leaves its context GRADED and the unit idle (R43). -/
theorem ContextsSound.graded {s : State} (hs : ContextsSound s) {g : Grading} (h : s.inFlight = some g) :
    ContextsSound ({ s with inFlight := none }.modContext g.context (s.gradedContext g.classes)) := by
  obtain ⟨htray, ⟨hnodup, hqueue⟩, hgrading⟩ := hs
  have hg : (s.context g.context).state = .grading := (hgrading g.context).mpr (by rw [h]; rfl)
  generalize ht : State.modContext _ g.context _ = t
  have hself : t.context g.context = s.gradedContext g.classes (s.context g.context) := by
    rw [← ht, State.context_modContext_self]
    rfl
  have hother : ∀ j, j ≠ g.context → t.context j = s.context j := fun j hj => by
    rw [← ht, State.context_modContext, if_neg (Ne.symm hj)]
    rfl
  refine ⟨htray.of_same (fun t' => by rw [← ht]; rfl) fun j => ?_, ⟨by rw [← ht]; exact hnodup, fun j => ?_⟩, fun j => ?_⟩
  · by_cases hj : j = g.context
    · subst hj
      rw [hself, hg]
      exact ⟨rfl, fun _ => rfl⟩
    · rw [hother j hj]
      exact ⟨rfl, fun _ => rfl⟩
  · have hqt : t.gradingQueue = s.gradingQueue := by rw [← ht]; rfl
    rw [hqt, hqueue]
    by_cases hj : j = g.context
    · subst hj
      rw [hself, hg]
      exact ⟨fun h' => (by cases h'), fun h' => (by cases h')⟩
    · rw [hother j hj]
  · have hft : t.inFlight.map Grading.context = none := by rw [← ht]; rfl
    rw [hft]
    by_cases hj : j = g.context
    · subst hj
      rw [hself]
      exact ⟨fun h' => (by cases h'), fun h' => (by cases h')⟩
    · have h' := hgrading j
      rw [h] at h'
      rw [hother j hj, h']
      simp [Ne.symm hj]

/-- A context that opens in a FREE slot for a tray without one keeps the laws (R1, R6). -/
theorem ContextsSound.openContext {s : State} (hs : ContextsSound s) {j : ContextIndex} {t : Tray} (f : InductItem)
    (hfree : (s.context j).state = .free) (ht : t ≠ noTray) (hmap : s.lookup t = none) :
    ContextsSound (s.openContext j t f) := by
  have hopened : ContextsSound ((s.modContext j (fun _ => openedContext t f s.readyPorts)).setMap t (some j)) := by
    obtain ⟨⟨hiff, hno⟩, ⟨hnodup, hqueue⟩, hgrading⟩ := hs
    generalize hu : State.setMap _ t (some j) = u
    have hself : u.context j = openedContext t f s.readyPorts := by rw [← hu, State.setMap_context, State.context_modContext_self]
    have hother : ∀ i, i ≠ j → u.context i = s.context i := fun i hi => by
      rw [← hu, State.setMap_context, State.context_modContext, if_neg (Ne.symm hi)]
    have hlook : ∀ t', u.lookup t' = if t = t' then some j else s.lookup t' := fun t' => by
      rw [← hu, State.lookup_setMap, State.modContext_lookup]
    have hst : (u.context j).state = .opened := by rw [hself]; rfl
    refine ⟨⟨fun t' i => ?_, by rw [hlook, if_neg ht, hno]⟩, ⟨by rw [← hu]; exact hnodup, fun i => ?_⟩, fun i => ?_⟩
    · rw [hlook]
      by_cases hi : i = j
      · subst hi
        have hnot : s.lookup t' ≠ some i := fun h => by
          have := ((hiff t' i).mp h).1
          rw [hfree] at this
          cases this
        rw [hself]
        show _ ↔ ContextState.opened.live = true ∧ t = t'
        split
        · next he => simp [he, ContextState.live]
        · next he => simp [he, hnot]
      · rw [hother i hi, ← hiff]
        split
        · next he =>
          rw [← he, hmap]
          simp [Ne.symm hi]
        · exact Iff.rfl
    · have hq : u.gradingQueue = s.gradingQueue := by rw [← hu]; rfl
      rw [hq, hqueue]
      by_cases hi : i = j
      · subst hi
        rw [hst, hfree]
        exact ⟨fun h' => (by cases h'), fun h' => (by cases h')⟩
      · rw [hother i hi]
    · have hf : u.inFlight = s.inFlight := by rw [← hu]; rfl
      rw [hf, ← hgrading i]
      by_cases hi : i = j
      · subst hi
        rw [hst, hfree]
        exact ⟨fun h' => (by cases h'), fun h' => (by cases h')⟩
      · rw [hother i hi]
  unfold State.openContext
  dsimp only
  split
  · exact hopened.seal j
  · exact hopened

/-- A change of a context in its slot keeps its role. -/
theorem ContextKept.sameRole {s : State} {c c' : Context} (h : ContextKept s c c') : SameRole c c' := by
  rcases h.state with he | ⟨hc, he⟩ | ⟨hc, he⟩
  · exact ⟨by rw [he], fun _ => h.tray, by rw [he], by rw [he]⟩
  · exact ⟨by rw [he, hc]; rfl, fun _ => h.tray, by rw [he, hc]; decide, by rw [he, hc]; decide⟩
  · exact ⟨by rw [he, hc]; rfl, fun _ => h.tray, by rw [he, hc]; decide, by rw [he, hc]; decide⟩

theorem ContextsSound.modContext {s : State} (hs : ContextsSound s) {i : ContextIndex} {f : Context → Context}
    (h : SameRole (s.context i) (f (s.context i))) : ContextsSound (s.modContext i f) := by
  refine hs.of_same (fun _ => rfl) rfl rfl fun j => ?_
  rw [State.context_modContext]
  split
  · next hij => exact hij ▸ h
  · exact .refl _

theorem Move.keeps_contextsSound {s t : State} (m : Move s t) (hs : ContextsSound s) : ContextsSound t := by
  cases m with
  | aside h =>
    obtain ⟨he, -⟩ := h
    rw [he]
    exact hs
  | orders frame => rw [frame]; exact hs
  | sends frame => rw [frame]; exact hs
  | ports frame => rw [frame]; exact hs
  | withdrawn p f => exact ContextsSound.withdraw (s := s.modPort p f) hs p
  | context i f kept => exact hs.modContext kept.sameRole
  | seals i => exact hs.seal i
  | startGrading => exact hs.startGrading
  | close i o d h => exact hs.closeContext h o d
  | opens j t f hfree ht hmap => exact hs.openContext f hfree ht hmap
  | replaces i j t f hfree ht hmap hi =>
    obtain ⟨hlive, htray⟩ := (hs.1.1 t i).mp hmap
    have hj : j ≠ i := fun h => by rw [← h, hfree] at hlive; cases hlive
    refine (hs.closeContext ⟨hi, .inr ⟨t, hmap⟩⟩ _ _).openContext f ?_ ht ?_
    · rw [State.closeContext_other s hj]
      exact hfree
    · rw [State.closeContext_lookup, if_pos htray]
  | admitItem i h =>
    refine ContextsSound.modContext (s := s.pushOut _) hs (i := i) (f := fun _ => {}) ?_
    exact SameRole.of_reporting h rfl
  | graded g h => exact hs.graded h
  | abandoned g h => exact hs.abandoned h
  | writeTable w => rw [State.writeTable_frame]; exact hs
  | configure g => exact hs
  | softReset => exact State.reset_contextsSound
  | powerOn => exact State.reset_contextsSound

/-- Settles O55: every move keeps the three laws, so every step does. -/
theorem stepKeepsContextsSound : Obligations.StepKeepsContextsSound := fun _ _ hs ht =>
  step_keeps (fun _ _ => Move.keeps_contextsSound) hs ht

end Sys2Proof.Machine
end

section
/-! What a table write and a CONFIGURE carry lies in the ranges of its table, so every move keeps tables and settings in range (R50, R63, R65, R172). -/

namespace Sys2Proof.Machine

/-! ### What a table write and a CONFIGURE carry (R50, R63, R65, R172) -/

/-- The values of a table write lie in the ranges of its table. -/
def TableChange.Sound : TableChange → Prop
  | .weights _ _ es => ∀ e ∈ es, e.weight ≤ 255
  | .profile _ p => ProfileSound p
  | .reasons _ => True
  | .window _ _ w => WindowSound w
  | .target _ t => TargetSound t

/-- A target that passes the checks of R70 satisfies the range condition (R63). -/
theorem parseTarget_sound {cls first width spread : Byte} {t : Target} (h : parseTarget cls first width spread = some t) :
    TargetSound t := by
  simp only [parseTarget, Option.bind_eq_bind, Option.bind_eq_some_iff] at h
  obtain ⟨c, _, f, _, sp, _, h⟩ := h
  split at h
  · next hrange =>
    cases h
    exact hrange
  · cases h

theorem parseWriteWeights_sound {ps : List Byte} {w : TableChange} (h : parseWriteWeights ps = some w) : w.Sound := by
  unfold parseWriteWeights at h
  split at h
  · simp only [Option.bind_eq_bind, Option.bind_eq_some_iff] at h
    obtain ⟨st, _, f, _, h⟩ := h
    split at h
    · cases h
      intro e he
      obtain ⟨b, _, rfl⟩ := List.mem_map.mp he
      exact Nat.le_of_lt_succ b.1.isLt
    · cases h
  · cases h

theorem parseWriteProfile_sound {ps : List Byte} {w : TableChange} (h : parseWriteProfile ps = some w) : w.Sound := by
  unfold parseWriteProfile at h
  split at h
  · simp only [Option.bind_eq_bind, Option.bind_eq_some_iff] at h
    obtain ⟨c, _, h⟩ := h
    split at h
    · cases h
      exact profileSound_blank
    · cases h
  · simp only [Option.bind_eq_bind, Option.bind_eq_some_iff] at h
    obtain ⟨c, _, v, _, h⟩ := h
    split at h
    · cases h
      exact profileSound_blank
    · simp only [Option.bind_eq_some_iff] at h
      obtain ⟨st, _, r, _, h⟩ := h
      split at h
      · next hrange =>
        obtain ⟨_, hab, hbc, hcd, hmax, htol, hall, hrate, hcap⟩ := hrange
        cases h
        exact ⟨hab, hbc, hcd, hmax, htol, hall, hrate, hcap, Nat.le_of_lt_succ (BitVec.isLt _), fun hv => by cases hv⟩
      · cases h
  · cases h

theorem parseWriteReasons_sound {ps : List Byte} {w : TableChange} (h : parseWriteReasons ps = some w) : w.Sound := by
  unfold parseWriteReasons at h
  split at h
  · cases h
    exact trivial
  · cases h

theorem parseWriteWindow_sound {ps : List Byte} {w : TableChange} (h : parseWriteWindow ps = some w) : w.Sound := by
  unfold parseWriteWindow at h
  split at h
  · simp only [Option.bind_eq_bind, Option.bind_eq_some_iff] at h
    obtain ⟨g, _, i, _, h⟩ := h
    split at h
    · cases h
      exact windowSound_blank
    · cases h
  · simp only [Option.bind_eq_bind, Option.bind_eq_some_iff] at h
    obtain ⟨g, _, i, _, e, _, h⟩ := h
    split at h
    · cases h
      exact windowSound_blank
    · simp only [Option.bind_eq_some_iff] at h
      obtain ⟨c, _, l, _, u, _, t, ht, h⟩ := h
      split at h
      · next hrange =>
        obtain ⟨htiers, hlu, hreasons⟩ := hrange
        cases h
        exact ⟨htiers, hreasons, hlu, parseTarget_sound ht, fun he => by cases he⟩
      · cases h
  · cases h

theorem parseWriteDefault_sound {ps : List Byte} {w : TableChange} (h : parseWriteDefault ps = some w) : w.Sound := by
  unfold parseWriteDefault at h
  split at h
  · simp only [Option.bind_eq_bind, Option.bind_eq_some_iff] at h
    obtain ⟨g, _, t, ht, h⟩ := h
    cases h
    exact parseTarget_sound ht
  · cases h

theorem parseTableChange_sound {code : Byte} {ps : List Byte} {w : TableChange} (h : parseTableChange code ps = some w) :
    w.Sound := by
  unfold parseTableChange at h
  split at h
  · exact parseWriteWeights_sound h
  · exact parseWriteProfile_sound h
  · exact parseWriteReasons_sound h
  · exact parseWriteWindow_sound h
  · exact parseWriteDefault_sound h
  · cases h

theorem clampTo_mem {lo hi : Nat} (h : lo ≤ hi) (x : Nat) : lo ≤ clampTo lo hi x ∧ clampTo lo hi x ≤ hi := by
  unfold clampTo
  omega

/-- The clamps of CONFIGURE leave every field in its range (R172, R173). -/
theorem parseConfigure_sound {ps : List Byte} {g : Settings} (h : parseConfigure ps = some g) : SettingsSound g := by
  unfold parseConfigure at h
  split at h
  · simp only [Option.bind_eq_bind, Option.bind_eq_some_iff] at h
    obtain ⟨k, _, l, _, h⟩ := h
    cases h
    have hlap := clampTo_mem (lo := 1) (hi := 7) (by decide)
    have htime := clampTo_mem (lo := 1) (hi := 15) (by decide)
    have hweight := clampTo_mem (lo := 1) (hi := Config.gramsMax) (by decide)
    have hhold := clampTo_mem (lo := 4) (hi := 15) (by decide)
    have hzone := clampTo_mem (lo := 0) (hi := 2) (by decide)
    have hextent := clampTo_mem (lo := 1) (hi := 4) (by decide)
    exact ⟨(hlap _).1, (hlap _).2, (htime _).1, (htime _).2, (hweight _).1, (hweight _).2, (hhold _).1, (hhold _).2, (hzone _).2,
      (hextent _).1, (hextent _).2⟩
  · cases h

/-! ### The tables are kept in range -/

/-- An entry of a table after one entry is written. -/
theorem vector_set_of {α : Type} {n : Nat} {P : α → Prop} {v : Vector α n} (hv : ∀ i : Fin n, P v[i]) {x : α} (hx : P x)
    (i j : Fin n) : P (v.set i x)[j] := by
  rw [Fin.getElem_fin, Vector.getElem_set]
  split
  · exact hx
  · exact hv j

/-- Every entry after a run is an entry of the run or of the table before (R57). -/
theorem writeRun_of {α : Type} {n : Nat} {P : α → Prop} (es : List α) {v : Vector α n} (hv : ∀ i : Fin n, P v[i])
    (hes : ∀ e ∈ es, P e) (first : Nat) (i : Fin n) : P (writeRun v first es)[i] := by
  induction es generalizing v first with
  | nil => exact hv i
  | cons e es ih =>
    refine ih (fun j => ?_) (fun x hx => hes x (List.mem_cons_of_mem e hx)) (first + 1)
    rw [Fin.getElem_fin, Vector.getElem_setIfInBounds]
    split
    · exact hes e List.mem_cons_self
    · exact hv j

theorem TablesSound.writeTable {s : State} (hs : TablesSound s) {w : TableChange} (hw : w.Sound) :
    TablesSound (s.writeTable w) := by
  obtain ⟨hprofiles, hweights, hwindows, hdefaults, hsettings⟩ := hs
  cases w with
  | weights st f es =>
    refine ⟨hprofiles, fun k c => ?_, hwindows, hdefaults, hsettings⟩
    exact vector_set_of (P := fun v : Vector WeightEntry 128 => ∀ c : Fin 128, v[c].weight ≤ 255) hweights
      (fun c => writeRun_of (P := fun e : WeightEntry => e.weight ≤ 255) es (hweights st) hw f.val c) st k c
  | profile c p => exact ⟨fun d => vector_set_of hprofiles hw c d, hweights, hwindows, hdefaults, hsettings⟩
  | reasons r => exact ⟨hprofiles, hweights, hwindows, hdefaults, hsettings⟩
  | window g i w =>
    refine ⟨hprofiles, hweights, fun h j => ?_, hdefaults, hsettings⟩
    exact vector_set_of (P := fun v : Vector Window 8 => ∀ j : Fin 8, WindowSound v[j]) hwindows
      (fun j => vector_set_of (hwindows g.index) hw i j) g.index h j
  | target g t => exact ⟨hprofiles, hweights, hwindows, fun h => vector_set_of hdefaults hw g.index h, hsettings⟩

theorem TablesSound.softReset {s : State} (hs : TablesSound s) : TablesSound s.softReset := by
  obtain ⟨hprofiles, hweights, hwindows, hdefaults, hsettings⟩ := hs
  refine ⟨hprofiles, hweights, hwindows, hdefaults, ?_⟩
  show SettingsSound (if s.settings.lock then s.settings else {})
  split
  · exact hsettings
  · exact settingsSound_blank

theorem Move.keeps_tablesSound {s t : State} (m : Move s t) (hs : TablesSound s) : TablesSound t := by
  cases m with
  | aside h =>
    obtain ⟨he, -⟩ := h
    rw [he]
    exact hs
  | orders frame => rw [frame]; exact hs
  | sends frame => rw [frame]; exact hs
  | ports frame => rw [frame]; exact hs
  | withdrawn p f => rw [State.withdraw_frame]; exact hs
  | context i f => exact hs
  | seals i => rw [State.seal_frame]; exact hs
  | startGrading => rw [State.startGrading_frame]; exact hs
  | close i o d => rw [State.closeContext_frame]; exact hs
  | opens j t f => rw [State.openContext_frame]; exact hs
  | replaces i j t f => rw [State.openContext_frame, State.closeContext_frame]; exact hs
  | admitItem i => exact hs
  | graded g => exact hs
  | abandoned g => rw [State.closeContext_frame]; exact hs
  | writeTable w code params h => exact hs.writeTable (parseTableChange_sound h)
  | configure g params h =>
    obtain ⟨hprofiles, hweights, hwindows, hdefaults, -⟩ := hs
    exact ⟨hprofiles, hweights, hwindows, hdefaults, parseConfigure_sound h⟩
  | softReset => exact hs.softReset
  | powerOn => exact State.reset_tablesSound

end Sys2Proof.Machine
end

section
/-! Every step keeps lists, queues and the ranges of contexts, item results and orders (R5, R13 to R19, R33, R34, R38, R63, R110, R140, R152). -/

namespace Sys2Proof.Machine

/-! ### Contexts within their ranges, whatever their state -/

/-- Every law of one context: its list, its reported ports and its ranges. -/
structure ContextFit (c : Context) : Prop where
  list : ListSound c
  reports : ReportsSound c
  ranges : ContextRanges c

theorem contextFit_free : ContextFit {} := ⟨⟨Nat.zero_le _, List.nodup_nil⟩, fun _ h => h, contextRanges_free⟩

theorem ContextFit.withState {c : Context} (h : ContextFit c) (st : ContextState) : ContextFit { c with state := st } :=
  ⟨h.list, h.reports, { h.ranges with }⟩

theorem ContextFit.closedAs {c : Context} (h : ContextFit c) (o : ItemOutcome) (d : Option Delivery) (n : BitVec 32) :
    ContextFit (c.closedAs o d n) :=
  ⟨h.list, h.reports, { h.ranges with }⟩

/-- A port that leaves the expected ones is not among the reported (R21). -/
theorem ContextFit.withdrawn {c : Context} (h : ContextFit c) (p : StationPort) : ContextFit (c.withdrawn p) := by
  unfold Context.withdrawn
  split
  · next hl =>
    obtain ⟨_, _, hnot⟩ := (c.losesPort_iff p).mp hl
    refine ⟨h.list, fun q hq => (portIn_portErase p q _).mpr ⟨?_, h.reports q hq⟩, { h.ranges with }⟩
    rintro rfl
    rw [hnot] at hq
    cases hq
  · exact h

theorem contextFit_opened (t : Tray) (f : InductItem) (e : PortSet) : ContextFit (openedContext t f e) where
  list := ⟨Nat.zero_le _, List.nodup_nil⟩
  reports p h := by
    rw [(portSet_eq_zero (openedContext t f e).reported).mp rfl p] at h
    cases h
  ranges := {
    laps := Nat.zero_le _
    list := fun o h => absurd h List.not_mem_nil
    measured := fun m h => absurd h.symm (Option.some_ne_none m)
    catalogue := Nat.min_le_left _ _
    score := contextRanges_free.score
    target := fun ct h => absurd h.symm (Option.some_ne_none ct) }

theorem ContextKept.fit {s : State} {c c' : Context} (hk : ContextKept s c c') (ht : TablesSound s) (h : ContextFit c) :
    ContextFit c' where
  list := hk.list h.list
  reports p hp := by
    rw [hk.expected]
    exact (hk.reports p hp).elim (h.reports p) id
  ranges := hk.ranges ht h.ranges

/-! ### The ranges of a grading (R31 to R38, R43) -/

theorem weightPenalty_le (m : Option Nat) (c t : Nat) : weightPenalty m c t ≤ 400 := by
  unfold weightPenalty
  split
  · exact Nat.zero_le _
  · split
    · exact Nat.zero_le _
    · exact Nat.min_le_left _ _

theorem agePenalty_le (days : Fin 1024) (allowance rate cap : Nat) : agePenalty days allowance rate cap ≤ cap := by
  unfold agePenalty
  split
  · exact Nat.zero_le _
  · exact Nat.min_le_left _ _

theorem tagPenalty_le (required : Bool) (points : Nat) (tags : Option Bool) : tagPenalty required points tags ≤ points := by
  unfold tagPenalty
  split
  · exact Nat.le_refl _
  · exact Nat.zero_le _

theorem State.profileInForce_sound {s : State} (ht : TablesSound s) (category : Fin 64) :
    ProfileSound (s.profileInForce category) := by
  unfold State.profileInForce
  dsimp only
  split
  · exact ht.1 category
  · exact profileSound_blank

/-- The copied target is a window's or a default's (R66). -/
theorem State.chooseTarget_sound {s : State} (ht : TablesSound s) (g : Grade) (c : Context) :
    TargetSound (s.chooseTarget g c).target := by
  obtain ⟨_, _, hwindows, hdefaults, _⟩ := ht
  unfold State.chooseTarget
  split
  · next i _ =>
    obtain ⟨_, _, _, htarget, _⟩ := hwindows g.index i
    exact htarget
  · exact hdefaults g.index

theorem ContextFit.graded {s : State} {c : Context} (h : ContextFit c) (ht : TablesSound s) (classes : Vector StationClass 8) :
    ContextFit (s.gradedContext classes c) where
  list := h.list
  reports := h.reports
  ranges := {
    laps := h.ranges.laps
    list := h.ranges.list
    measured := h.ranges.measured
    catalogue := h.ranges.catalogue
    score := by
      obtain ⟨_, _, _, _, _, _, _, hcap, hpoints, _⟩ := State.profileInForce_sound ht c.category
      exact ⟨Nat.min_le_left _ _, weightPenalty_le _ _ _, Nat.le_trans (agePenalty_le _ _ _ _) hcap,
        Nat.le_trans (tagPenalty_le _ _ _) hpoints,
        (s.reasons[c.reason]).le_toInt, Int.le_of_lt_add_one (s.reasons[c.reason]).toInt_lt, Nat.min_le_left _ _⟩
    target := fun ct hct => by
      cases hct
      exact State.chooseTarget_sound ht _ c }

/-! ### Item results and orders (R77, R157) -/

/-- The item result of a context within its ranges is within its own (R157). -/
theorem ContextFit.itemRanges {c : Context} (h : ContextFit c) : ItemRanges c.itemResult where
  laps := h.ranges.laps
  width ct hct := by
    obtain ⟨hlo, hhi, _⟩ := h.ranges.target ct hct
    exact ⟨hlo, hhi⟩
  score := h.ranges.score
  list := by
    refine ⟨?_, fun o ho => ?_⟩
    · show (c.observations.map _).length ≤ 12
      rw [List.length_map]
      exact h.list.1
    · obtain ⟨x, hx, rfl⟩ := List.mem_map.mp ho
      obtain ⟨_, _, _, hpoints⟩ := h.ranges.list x hx
      exact hpoints

/-- What R77 allows of an outstanding order. -/
def OrderSound (o : DivertOrder) : Prop := o.grams ≤ 20000 ∧ o.remaining ≤ 15000

theorem State.itemWeight_le {s : State} (ht : TablesSound s) {c : Context} (h : ContextRanges c) : s.itemWeight c ≤ 20000 := by
  obtain ⟨_, _, _, _, _, _, _, _, _, hweight, _⟩ := ht
  unfold State.itemWeight
  split
  · next m hm => exact h.measured m hm
  · split
    · exact hweight
    · exact h.catalogue

theorem State.issues_sound {s : State} (ht : TablesSound s) (hc : ∀ i, ContextFit (s.context i)) {o : DivertOrder}
    (h : s.issues o) : OrderSound o := by
  obtain ⟨hgrams, hremaining⟩ := h
  obtain ⟨_, _, _, _, _, _, _, htime, _, hweight, _⟩ := id ht
  refine ⟨?_, by rw [hremaining]; omega⟩
  rcases hgrams with hg | ⟨i, hg⟩ <;> rw [hg]
  · exact hweight
  · exact State.itemWeight_le ht (hc i).ranges

/-! ### Every move keeps contexts, results, orders and queues in range -/

/-- An item result that a close or an admission puts on its way is the closing context's. -/
theorem State.closeContext_outgoing {s : State} {i : ContextIndex} {o : ItemOutcome} {d : Option Delivery} {r : ItemResult}
    (h : .item r ∈ (s.closeContext i o d).outgoing) :
    .item r ∈ s.outgoing ∨ ∃ n, r = ((s.context i).closedAs o d n).itemResult := by
  rcases s.closeContext_cases i o d with ⟨_, he⟩ | ⟨_, he⟩ <;> rw [he] at h
  · simp only [State.outgoing, List.mem_append, List.mem_singleton] at h
    rcases h with (h | h) | h
    · exact .inl (List.mem_append_left _ h)
    · exact .inr ⟨_, OutFrame.item.inj h⟩
    · exact .inl (List.mem_append_right _ h)
  · exact .inl h

theorem State.openContext_outgoing (s : State) (j : ContextIndex) (t : Tray) (f : InductItem) :
    (s.openContext j t f).outgoing = s.outgoing := by
  rw [State.openContext_frame]
  rfl

/-- A soft reset leaves on its way a frame that was. -/
theorem State.softReset_outgoing {s : State} {f : OutFrame} (h : f ∈ s.softReset.outgoing) : f ∈ s.outgoing := by
  have hsending : s.sending = some f := by simpa [State.outgoing, State.softReset] using h
  unfold State.sending at hsending
  unfold State.outgoing
  cases hl : s.lineFinishing with
  | some g =>
    rw [hl] at hsending
    cases hsending
    simp
  | none =>
    rw [hl] at hsending
    change (if s.lineLink = .up then s.outbound.head? else none) = some f at hsending
    split at hsending
    · simp [List.mem_of_mem_head? hsending]
    · cases hsending

/-- The laws of O57 as they are kept together. -/
structure AllFit (s : State) : Prop where
  tables : TablesSound s
  contexts : ∀ i, ContextFit (s.context i)
  queues : PortQueuesSound s
  results : ∀ r, .item r ∈ s.outgoing → ItemRanges r
  orders : ∀ o ∈ s.orders, OrderSound o

theorem ContextFit.of_state {c c' : Context} (h : ContextFit c) (he : c' = c ∨ ∃ st, st ≠ .opened ∧ c' = { c with state := st }) :
    ContextFit c' := by
  rcases he with rfl | ⟨st, _, rfl⟩
  · exact h
  · exact h.withState st

theorem State.closeContext_fit {s : State} (hs : ∀ i, ContextFit (s.context i)) (i : ContextIndex) (o : ItemOutcome)
    (d : Option Delivery) (j : ContextIndex) : ContextFit ((s.closeContext i o d).context j) := by
  by_cases hj : j = i
  · subst hj
    rcases s.closeContext_self j o d with he | he <;> rw [he]
    · exact (hs j).closedAs o d _
    · exact contextFit_free
  · rw [State.closeContext_other s hj]
    exact hs j

theorem State.openContext_fit {s : State} (hs : ∀ i, ContextFit (s.context i)) (j : ContextIndex) (t : Tray) (f : InductItem)
    (i : ContextIndex) : ContextFit ((s.openContext j t f).context i) := by
  refine ContextFit.of_state ?_ (s.openContext_context j i t f)
  split
  · exact contextFit_opened t f _
  · exact hs i

theorem State.modContext_fit {s : State} (hs : ∀ i, ContextFit (s.context i)) (i : ContextIndex) {f : Context → Context}
    (h : ContextFit (f (s.context i))) (j : ContextIndex) : ContextFit ((s.modContext i f).context j) := by
  rw [State.context_modContext]
  split
  · exact h
  · exact hs j

theorem Move.keeps_contextFit {s t : State} (m : Move s t) (ht : TablesSound s) (hs : ∀ i, ContextFit (s.context i)) :
    ∀ i, ContextFit (t.context i) := by
  intro i
  cases m with
  | aside h =>
    obtain ⟨he, -⟩ := h
    rw [he]
    exact hs i
  | orders frame => rw [frame]; exact hs i
  | sends frame => rw [frame]; exact hs i
  | ports frame => rw [frame]; exact hs i
  | withdrawn p f =>
    rcases (s.modPort p f).withdraw_context p i with he | he <;> rw [he]
    · exact (hs i).withdrawn p
    · exact ((hs i).withdrawn p).withState .grading
  | context j f kept => exact State.modContext_fit hs j (kept.fit ht (hs j)) i
  | seals j => exact (hs i).of_state (s.seal_context j i)
  | startGrading => exact (hs i).of_state ((s.startGrading_context i).imp id fun h => ⟨.grading, by decide, h⟩)
  | close j o d => exact State.closeContext_fit hs j o d i
  | opens j t f => exact State.openContext_fit hs j t f i
  | replaces k j t f => exact State.openContext_fit (State.closeContext_fit hs k .replaced none) j t f i
  | admitItem j => exact State.modContext_fit (s := s.pushOut _) hs j (f := fun _ => {}) contextFit_free i
  | graded g => exact State.modContext_fit (s := { s with inFlight := none }) hs g.context ((hs g.context).graded ht g.classes) i
  | abandoned g => exact State.closeContext_fit (s := { s with inFlight := none }) hs g.context .abandoned none i
  | writeTable w => rw [State.writeTable_frame]; exact hs i
  | configure g => exact hs i
  | softReset => exact State.reset_context i ▸ contextFit_free
  | powerOn => exact State.reset_context i ▸ contextFit_free

theorem State.closeContext_results {s : State} (hc : ∀ i, ContextFit (s.context i))
    (hs : ∀ r, .item r ∈ s.outgoing → ItemRanges r) {i : ContextIndex} {o : ItemOutcome} {d : Option Delivery} {r : ItemResult}
    (hr : .item r ∈ (s.closeContext i o d).outgoing) : ItemRanges r := by
  rcases State.closeContext_outgoing hr with h | ⟨n, rfl⟩
  · exact hs r h
  · exact ((hc i).closedAs o d n).itemRanges

theorem Move.keeps_results {s t : State} (m : Move s t) (hc : ∀ i, ContextFit (s.context i))
    (hs : ∀ r, .item r ∈ s.outgoing → ItemRanges r) : ∀ r, .item r ∈ t.outgoing → ItemRanges r := by
  intro r hr
  cases m with
  | aside h =>
    obtain ⟨-, hitem⟩ := h
    exact hs r (hitem r hr)
  | orders frame => rw [frame] at hr; exact hs r hr
  | sends frame => rw [frame] at hr; exact hs r hr
  | ports frame => rw [frame] at hr; exact hs r hr
  | withdrawn p f => rw [State.withdraw_frame] at hr; exact hs r hr
  | context i f => exact hs r hr
  | seals i => rw [State.seal_frame] at hr; exact hs r hr
  | startGrading => rw [State.startGrading_frame] at hr; exact hs r hr
  | close i o d => exact State.closeContext_results hc hs hr
  | opens j t f => rw [State.openContext_outgoing] at hr; exact hs r hr
  | replaces i j t f => rw [State.openContext_outgoing] at hr; exact State.closeContext_results hc hs hr
  | admitItem i =>
    have hr' : .item r ∈ (s.outbound ++ [.item (s.context i).itemResult]) ++ s.lineFinishing.toList := hr
    simp only [List.mem_append, List.mem_singleton] at hr'
    rcases hr' with (h | h) | h
    · exact hs r (List.mem_append_left _ h)
    · exact OutFrame.item.inj h ▸ (hc i).itemRanges
    · exact hs r (List.mem_append_right _ h)
  | graded g => exact hs r hr
  | abandoned g => exact State.closeContext_results (s := { s with inFlight := none }) hc hs hr
  | writeTable w => rw [State.writeTable_frame] at hr; exact hs r hr
  | configure g => exact hs r hr
  | softReset => exact hs r (State.softReset_outgoing hr)
  | powerOn => exact absurd hr List.not_mem_nil

theorem Move.keeps_orders {s t : State} (m : Move s t) (ht : TablesSound s) (hc : ∀ i, ContextFit (s.context i))
    (hs : ∀ o ∈ s.orders, OrderSound o) : ∀ o ∈ t.orders, OrderSound o := by
  cases m with
  | aside h =>
    obtain ⟨he, -⟩ := h
    rw [he]
    exact hs
  | orders frame h =>
    intro o ho
    rcases h o ho with ⟨o', ho', hgrams, hremaining⟩ | hissued
    · obtain ⟨hg, hr⟩ := hs o' ho'
      exact ⟨hgrams ▸ hg, Nat.le_trans hremaining hr⟩
    · exact State.issues_sound ht hc hissued
  | sends frame => rw [frame]; exact hs
  | ports frame => rw [frame]; exact hs
  | withdrawn p f => rw [State.withdraw_frame]; exact hs
  | context i f => exact hs
  | seals i => rw [State.seal_frame]; exact hs
  | startGrading => rw [State.startGrading_frame]; exact hs
  | close i o d => rw [State.closeContext_frame]; exact hs
  | opens j t f => rw [State.openContext_frame]; exact hs
  | replaces i j t f => rw [State.openContext_frame, State.closeContext_frame]; exact hs
  | admitItem i => exact hs
  | graded g => exact hs
  | abandoned g => rw [State.closeContext_frame]; exact hs
  | writeTable w => rw [State.writeTable_frame]; exact hs
  | configure g => exact hs
  | softReset => exact fun o ho => absurd ho List.not_mem_nil
  | powerOn => exact fun o ho => absurd ho List.not_mem_nil

/-- Of the frames waiting at a station at most the one being sent is left by a soft reset (R155). -/
theorem PortQueuesSound.softReset {s : State} (hs : PortQueuesSound s) : PortQueuesSound s.softReset := by
  obtain ⟨_, hstation, hsorter⟩ := hs
  refine ⟨fun p => by rw [State.softReset_port]; exact Nat.zero_le _, fun p => ?_, hsorter⟩
  show (vecOf s.stationSending)[p].length ≤ 8
  rw [Fin.getElem_fin, vecOf_getElem]
  unfold State.stationSending
  split
  · exact Nat.le_trans (List.length_take_le' _ _) (hstation p)
  · exact Nat.zero_le _

theorem le_of_le_max {a b c : Nat} (h : a ≤ max b c) (hc : c ≤ b) : a ≤ b :=
  Nat.le_trans h (Nat.max_le.mpr ⟨Nat.le_refl b, hc⟩)

theorem Move.keeps_queues {s t : State} (m : Move s t) (hs : PortQueuesSound s) : PortQueuesSound t := by
  cases m with
  | aside h =>
    obtain ⟨he, -⟩ := h
    rw [he]
    exact hs
  | orders frame => rw [frame]; exact hs
  | sends frame station sorter =>
    obtain ⟨hports, hstation, hsorter⟩ := hs
    exact ⟨by rw [frame]; exact hports, fun p => le_of_le_max (station p) (hstation p),
      le_of_le_max sorter hsorter⟩
  | ports frame kept =>
    obtain ⟨hports, hstation, hsorter⟩ := hs
    exact ⟨fun p => le_of_le_max (kept p).queue (hports p), by rw [frame]; exact hstation,
      by rw [frame]; exact hsorter⟩
  | withdrawn q f kept =>
    obtain ⟨hports, hstation, hsorter⟩ := hs
    refine ⟨fun p => ?_, by rw [State.withdraw_frame]; exact hstation, by rw [State.withdraw_frame]; exact hsorter⟩
    rw [State.withdraw_port, State.port_modPort]
    split
    · exact le_of_le_max kept.queue (hports q)
    · exact hports p
  | context i f => exact hs
  | seals i => rw [State.seal_frame]; exact hs
  | startGrading => rw [State.startGrading_frame]; exact hs
  | close i o d => rw [State.closeContext_frame]; exact hs
  | opens j t f => rw [State.openContext_frame]; exact hs
  | replaces i j t f => rw [State.openContext_frame, State.closeContext_frame]; exact hs
  | admitItem i => exact hs
  | graded g => exact hs
  | abandoned g => rw [State.closeContext_frame]; exact hs
  | writeTable w => rw [State.writeTable_frame]; exact hs
  | configure g => exact hs
  | softReset => exact hs.softReset
  | powerOn =>
    refine ⟨fun p => ?_, fun p => ?_, Nat.zero_le _⟩
    · show (State.reset.port p).inbound.length ≤ 16
      rw [State.reset_port]
      exact Nat.zero_le _
    · show State.reset.stationTx[p].length ≤ 8
      rw [State.reset_atPowerOn.waiting.1]
      exact Nat.zero_le _

theorem Move.keeps_allFit {s t : State} (m : Move s t) (h : AllFit s) : AllFit t where
  tables := m.keeps_tablesSound h.tables
  contexts := m.keeps_contextFit h.tables h.contexts
  queues := m.keeps_queues h.queues
  results := m.keeps_results h.contexts h.results
  orders := m.keeps_orders h.tables h.contexts h.orders

/-- Settles O57: every move keeps the laws together with those of the tables, on which they rest. -/
theorem stepKeepsListsAndQueuesSound : Obligations.StepKeepsListsAndQueuesSound := by
  intro s t hlists hqueues hranges htables hstep
  have h : AllFit s :=
    { tables := htables, queues := hqueues, results := hranges.results, orders := hranges.orders
      contexts := fun i => ⟨(hlists i).1, (hlists i).2, hranges.contexts i⟩ }
  have h' : AllFit t := step_keeps (fun _ _ => Move.keeps_allFit) h hstep
  exact ⟨fun i => ⟨(h'.contexts i).list, (h'.contexts i).reports⟩, h'.queues,
    { contexts := fun i => (h'.contexts i).ranges, results := h'.results, orders := h'.orders }⟩

end Sys2Proof.Machine
end

section
/-! The score parts, forced causes and grade of a grading, stage by stage (R30 to R41). -/

namespace Sys2Proof.Machine

/-! ### Stages 2 to 7: the score parts (R31, R33, R34, R35, R38) -/

theorem defectSum_of_le {os : List Observation} (h : (os.map Observation.points).sum ≤ 4095) :
    defectSum os = (os.map Observation.points).sum := Nat.min_eq_right h

theorem defectSum_of_lt {os : List Observation} (h : 4095 < (os.map Observation.points).sum) : defectSum os = 4095 :=
  Nat.min_eq_left (Nat.le_of_lt h)

theorem deviation_eq_natAbs (m c : Nat) : deviation m c = ((m : Int) - c).natAbs := by
  unfold deviation
  omega

/-- The whole percent is the quotient that brackets the distance; the cap at 999 stays (R33). -/
theorem weightDeviation_of_bracket {m c dev : Nat} (hlo : dev * c ≤ ((m : Int) - c).natAbs * 100)
    (hhi : ((m : Int) - c).natAbs * 100 < (dev + 1) * c) : weightDeviation m c = min 999 dev := by
  rw [weightDeviation, deviation_eq_natAbs, Nat.div_eq_of_lt_le hlo hhi]

theorem weightPenalty_unchecked {m : Option Nat} {c : Nat} (h : m = none ∨ c = 0) (tolerance : Nat) :
    weightPenalty m c tolerance = 0 := by
  obtain rfl | rfl := h
  · rfl
  · cases m <;> rfl

theorem weightPenalty_checked (m : Nat) {c : Nat} (hc : 0 < c) (tolerance : Nat) :
    weightPenalty (some m) c tolerance = min 400 ((weightDeviation m c - tolerance) * 8) :=
  if_neg (Nat.ne_of_gt hc)

/-- The cap at 999 does not show in the penalty: past a tolerance of 25 it lies far above 400 points (R33, R50). -/
theorem cappedPenalty_eq {dev tolerance : Nat} (h : tolerance ≤ 25) :
    min 400 ((min 999 dev - tolerance) * 8) = if (dev - tolerance) * 8 ≤ 400 then (dev - tolerance) * 8 else 400 := by
  split <;> omega

theorem agePenalty_unknown {days : Fin 1024} (h : days.val = 1023) (allowance rate cap : Nat) :
    agePenalty days allowance rate cap = 0 :=
  if_pos (beq_iff_eq.mpr (Fin.ext h))

theorem agePenalty_known {days : Fin 1024} (h : days.val ≠ 1023) (allowance rate cap : Nat) :
    agePenalty days allowance rate cap = min cap ((days.val - allowance + 9) / 10 * rate) :=
  if_neg fun he => h (congrArg Fin.val (beq_iff_eq.mp he))

theorem agePenalty_within {days : Fin 1024} {allowance : Nat} (h : days.val ≤ allowance) (rate cap : Nat) :
    agePenalty days allowance rate cap = 0 := by
  by_cases hu : days.val = 1023
  · exact agePenalty_unknown hu _ _ _
  · rw [agePenalty_known hu, Nat.sub_eq_zero_of_le h, Nat.zero_add, Nat.div_eq_of_lt (by decide), Nat.zero_mul, Nat.min_zero]

/-- A started run of ten days past the allowance counts whole (R34). -/
theorem agePenalty_past {days : Fin 1024} {allowance n : Nat} (hu : days.val ≠ 1023) (hlo : allowance + 10 * n < days.val)
    (hhi : days.val ≤ allowance + 10 * (n + 1)) (rate cap : Nat) :
    agePenalty days allowance rate cap = if (n + 1) * rate ≤ cap then (n + 1) * rate else cap := by
  have hruns : (days.val - allowance + 9) / 10 = n + 1 := by omega
  rw [agePenalty_known hu, hruns, Nat.min_comm, Nat.min_def]

theorem tagPenalty_eq (required : Bool) (points : Nat) (tags : Option Bool) :
    tagPenalty required points tags = if required = true ∧ tags = some false then points else 0 := by
  simp only [tagPenalty, Bool.and_eq_true, beq_iff_eq]

theorem totalOf_eq (d w a t : Nat) (r : Int) :
    (totalOf d w a t r : Int) = max 0 (min 4095 ((d : Int) + w + a + t + r)) := by
  unfold totalOf Config.scoreMax
  omega

/-- Settles O18: each part is its own stage's term, and the facts above say what each stage answers. -/
theorem scorePartsFollowTheStages : Obligations.ScorePartsFollowTheStages := by
  intro p reason c
  refine ⟨defectSum_of_le, defectSum_of_lt, fun h => weightPenalty_unchecked h _, ?weight, fun h => agePenalty_unknown h _ _ _,
    fun h => agePenalty_within h _ _, fun _ hu hlo hhi => agePenalty_past hu hlo hhi _ _, tagPenalty_eq _ _ _, rfl,
    totalOf_eq _ _ _ _ _⟩
  case weight =>
    intro m dev hm hc hlo hhi
    have hweight : (scoreOf p reason c).weight = min 400 ((min 999 dev - p.tolerance) * 8) := by
      show weightPenalty c.measured c.catalogue p.tolerance = _
      rw [hm, weightPenalty_checked m hc, weightDeviation_of_bracket hlo hhi]
    constructor
    · intro hwithin
      have hzero : min 999 dev - p.tolerance = 0 := Nat.sub_eq_zero_of_le (Nat.le_trans (Nat.min_le_right _ _) hwithin)
      rw [hweight, hzero, Nat.zero_mul, Nat.min_zero]
    · intro _ htol
      rw [hweight, cappedPenalty_eq htol]

/-! ### The forced causes and the grade (R30, R32, R36, R39 to R41) -/

theorem StationClass.mem_all (k : StationClass) : k ∈ [StationClass.label, .vision, .scale, .bench] := by
  cases k <;> decide

theorem missingMandatory_iff (mandatory : BitVec 4) (classes : Vector StationClass 8) (reported : PortSet) :
    missingMandatory mandatory classes reported = true ↔ ∃ k : StationClass, mandatory.getLsbD k.code = true ∧
      ∀ q : StationPort, portIn q reported = true → classes[q] ≠ k := by
  unfold missingMandatory
  rw [List.any_eq_true]
  refine exists_congr fun k => ?_
  simp [StationClass.mem_all k]

theorem manualDefect_iff (os : List Observation) (dropped : Bool) :
    (os.any Observation.manual || dropped) = true ↔ (∃ o ∈ os, o.manual = true) ∨ dropped = true := by
  rw [Bool.or_eq_true, List.any_eq_true]

/-- A set of ports that is not empty holds a port (R40). -/
theorem portSet_bne_zero (ps : PortSet) : (ps != 0) = true ↔ ∃ q, portIn q ps = true := by
  rw [bne_iff_ne, Ne, portSet_eq_zero, Classical.not_forall]
  exact exists_congr fun q => Iff.of_eq (Bool.not_eq_false _)

theorem Causes.any_iff (k : Causes) : k.any = true ↔ k ≠ {} := by
  have hnone : k.any = false ↔ k = {} := by
    cases k
    simp [Causes.any, and_assoc]
  rw [Ne, ← hnone, Bool.not_eq_false]

theorem gradeFor_forced (p : Profile) {k : Causes} (h : k ≠ {}) (total : Nat) : gradeFor p k total = .m :=
  if_pos (k.any_iff.mpr h)

/-- Without a forced cause the thresholds alone decide (R41). -/
theorem gradeFor_unforced (p : Profile) (total : Nat) : gradeFor p {} total =
    if total ≤ p.tA then .a else if total ≤ p.tB then .b else if total ≤ p.tC then .c else if total ≤ p.tD then .d else .z :=
  rfl

/-- Settles O19: each cause by its own law; the grade by its two cases, with a forced cause and without. -/
theorem gradeFollowsCausesAndTotal : Obligations.GradeFollowsCausesAndTotal := by
  refine ⟨fun p classes c => ⟨Iff.of_eq (Bool.not_eq_true' _), manualDefect_iff _ _, Iff.rfl, missingMandatory_iff _ _ _,
    portSet_bne_zero _⟩, fun p k total => ⟨fun h => gradeFor_forced p h total, ?a, ?b, ?c, ?d, ?z⟩⟩
  case a =>
    rintro rfl ha
    rw [gradeFor_unforced, if_pos ha]
  case b =>
    rintro rfl ha hb
    rw [gradeFor_unforced, if_neg (Nat.not_le_of_lt ha), if_pos hb]
  case c =>
    rintro rfl ha hb hc
    rw [gradeFor_unforced, if_neg (Nat.not_le_of_lt ha), if_neg (Nat.not_le_of_lt hb), if_pos hc]
  case d =>
    rintro rfl ha hb hc hd
    rw [gradeFor_unforced, if_neg (Nat.not_le_of_lt ha), if_neg (Nat.not_le_of_lt hb),
      if_neg (Nat.not_le_of_lt hc), if_pos hd]
  case z =>
    rintro rfl ha hb hc hd
    rw [gradeFor_unforced, if_neg (Nat.not_le_of_lt ha), if_neg (Nat.not_le_of_lt hb),
      if_neg (Nat.not_le_of_lt hc), if_neg (Nat.not_le_of_lt hd)]

end Sys2Proof.Machine
end

section
/-! Every step keeps tables, windows, default targets and settings in range (R48, R50, R63, R65, R172). -/

namespace Sys2Proof.Machine

/-- Settles O59: every move keeps the tables in range, since a write or a CONFIGURE carries values in range, so every step does. -/
theorem stepKeepsTablesSound : Obligations.StepKeepsTablesSound := fun _ _ hs ht =>
  step_keeps (fun _ _ => Move.keeps_tablesSound) hs ht

end Sys2Proof.Machine
end

section
/-! The table writes: what each parses to, and the three answers of a write command (R54 to R60, R70 to R72, R148, R177). -/

namespace Sys2Proof.Machine

/-! ### The three answers of a write command (R54) -/

section Answers

variable {s : State} {tag code : Byte} {params : List Byte} {c : Instr} {w : TableChange}
  (hc : c ∈ [Instr.writeWeights tag params, .writeProfile tag params, .writeReasons tag params, .writeWindow tag params,
    .writeDefault tag params])
  (hm : managementOf c = some (tag, code, params)) (hs : s.command = none)

include hc hm hs

theorem exec_write_refused (hp : parseTableChange code params = none) :
    exec c s = .next (s.finish tag code params .badParam []) := by
  rw [exec_write hc hm s, hp]
  exact congrArg _ (State.runCommand_done hs rfl)

theorem exec_write_taken (hf : s.inFlight = none) (hp : parseTableChange code params = some w) :
    exec c s = .next ((s.writeTable w).finish tag code params .ok w.payload) := by
  have hact : writeAct (some w) s = (s.writeTable w, .done .ok w.payload) := by simp only [writeAct, hf]
  rw [exec_write hc hm s, hp]
  exact congrArg _ (State.runCommand_done hs hact)

theorem exec_write_waits (hf : s.inFlight ≠ none) (hp : parseTableChange code params = some w) : exec c s =
    .next { s with command := some { tag := tag, code := code, params := params, phase := .execution } } := by
  obtain ⟨g, hg⟩ := Option.ne_none_iff_exists'.mp hf
  have hact : writeAct (some w) s = (s, .wait) := by simp only [writeAct, hg]
  rw [exec_write hc hm s, hp]
  exact congrArg _ (State.runCommand_wait hs hact)

/-- Refused where the bytes fail, waiting where they pass with a grading in flight. -/
theorem exec_write_follows {fits : Prop} (hfits : (parseTableChange code params).isSome = true ↔ fits) :
    (¬ fits → exec c s = .next (s.finish tag code params .badParam [])) ∧
    (fits → s.inFlight ≠ none → exec c s =
      .next { s with command := some { tag := tag, code := code, params := params, phase := .execution } }) := by
  constructor
  · intro hn
    exact exec_write_refused hc hm hs (Option.not_isSome_iff_eq_none.mp (mt hfits.mp hn))
  · intro hy hf
    obtain ⟨w, hw⟩ := Option.isSome_iff_exists.mp (hfits.mpr hy)
    exact exec_write_waits hc hm hs hf hw

end Answers

section Taken

variable {s : State} {params : List Byte} {w : TableChange} (hs : s.command = none) (hf : s.inFlight = none)

include hs hf

theorem exec_writeWeights_taken (hp : parseWriteWeights params = some w) (tag : Byte) :
    exec (.writeWeights tag params) s = .next ((s.writeTable w).finish tag 0x04 params .ok w.payload) :=
  exec_write_taken (by simp) rfl hs hf hp

theorem exec_writeProfile_taken (hp : parseWriteProfile params = some w) (tag : Byte) :
    exec (.writeProfile tag params) s = .next ((s.writeTable w).finish tag 0x05 params .ok w.payload) :=
  exec_write_taken (by simp) rfl hs hf hp

theorem exec_writeReasons_taken (hp : parseWriteReasons params = some w) (tag : Byte) :
    exec (.writeReasons tag params) s = .next ((s.writeTable w).finish tag 0x06 params .ok w.payload) :=
  exec_write_taken (by simp) rfl hs hf hp

theorem exec_writeWindow_taken (hp : parseWriteWindow params = some w) (tag : Byte) :
    exec (.writeWindow tag params) s = .next ((s.writeTable w).finish tag 0x07 params .ok w.payload) :=
  exec_write_taken (by simp) rfl hs hf hp

theorem exec_writeDefault_taken (hp : parseWriteDefault params = some w) (tag : Byte) :
    exec (.writeDefault tag params) s = .next ((s.writeTable w).finish tag 0x08 params .ok w.payload) :=
  exec_write_taken (by simp) rfl hs hf hp

end Taken

/-- Settles O23: the bytes that each parser accepts are those that fit. -/
theorem tableWriteIsRefusedOrWaits : Obligations.TableWriteIsRefusedOrWaits := by
  intro s tag params hs
  exact ⟨exec_write_follows (by simp) rfl hs (parseWriteWeights_isSome params),
    exec_write_follows (by simp) rfl hs (parseWriteProfile_isSome params),
    exec_write_follows (by simp) rfl hs (parseWriteReasons_isSome params),
    exec_write_follows (by simp) rfl hs (parseWriteWindow_isSome params),
    exec_write_follows (by simp) rfl hs (parseWriteDefault_isSome params)⟩

/-! ### WRITE_WEIGHTS (R56, R57, R148) -/

@[simp] theorem byteOf_toNat (b : Byte) : byteOf b.toNat = b := (BitVec.ofNat_toNat 8 b).trans (BitVec.setWidth_eq b)

/-- A number that a byte gives is sent as that byte. -/
theorem byteOf_eq {b : Byte} {n : Nat} (h : b.toNat = n) : byteOf n = b := h ▸ byteOf_toNat b

theorem be32_eq_append (b3 b2 b1 b0 : Byte) : be32 b3 b2 b1 b0 = b3 ++ b2 ++ b1 ++ b0 :=
  (BitVec.append_assoc (x₁ := b3 ++ b2) (x₂ := b1) (x₃ := b0)).symm

/-- An entry after a run: the run's at its place, the table's own outside (R57). -/
theorem writeRun_getElem {α : Type} {n : Nat} (es : List α) (v : Vector α n) (first : Nat) (c : Fin n) :
    (writeRun v first es)[c] = if first ≤ c.val then es.getD (c.val - first) v[c] else v[c] := by
  induction es generalizing v first with
  | nil => simp [writeRun]
  | cons e es ih =>
    rw [writeRun, ih, Fin.getElem_fin, Vector.getElem_setIfInBounds]
    rcases Nat.lt_trichotomy c.val first with hlt | heq | hgt
    · rw [if_neg (by omega), if_neg (by omega), if_neg (by omega)]
      rfl
    · rw [if_neg (by omega), if_pos heq.symm, if_pos (by omega), Nat.sub_eq_zero_of_le (Nat.le_of_eq heq), List.getD_cons_zero]
    · have hplace : c.val - first = c.val - (first + 1) + 1 := by omega
      rw [if_pos (by omega), if_neg (by omega), if_pos (by omega), hplace, List.getD_cons_succ]
      rfl

/-- Entry n of a run: its weight byte and its mask bit (R148). -/
theorem weightEntries_getD (mask : BitVec 32) (ws : List Byte) (n : Nat) (d : WeightEntry) :
    (weightEntries mask ws).getD n d =
      if n < ws.length then { weight := (ws.getD n 0).toNat, manual := mask.getLsbD n } else d := by
  unfold weightEntries
  split
  · next h => simp [h]
  · next h => simp [Nat.le_of_not_lt h]

theorem weightEntries_length (mask : BitVec 32) (ws : List Byte) : (weightEntries mask ws).length = ws.length := by
  simp [weightEntries]

theorem parseWriteWeights_eq {setByte first count m3 m2 m1 m0 : Byte} {set : Fin 16} {ws : List Byte} {f : Fin 128}
    (hset : setByte.toNat = set.val) (hf : first.toNat = f.val) (hcount : 1 ≤ count.toNat) (hmax : count.toNat ≤ 32)
    (hend : first.toNat + count.toNat ≤ 128) (hws : ws.length = count.toNat) :
    parseWriteWeights (setByte :: first :: count :: m3 :: m2 :: m1 :: m0 :: ws) =
      some (.weights set f (weightEntries (be32 m3 m2 m1 m0) ws)) := by
  have hrange : 1 ≤ count.toNat ∧ count.toNat ≤ 32 ∧ f.val + count.toNat - 1 ≤ 127 ∧ ws.length = count.toNat :=
    ⟨hcount, hmax, by omega, hws⟩
  simp only [parseWriteWeights, indexOf_eq_some.mpr hset, indexOf_eq_some.mpr hf, Option.bind_eq_bind, Option.bind_some,
    if_pos hrange, Option.pure_def]

/-- Settles O21: the set's entries after the run, and every other set as it was. -/
theorem writeWeightsWritesItsRun : Obligations.WriteWeightsWritesItsRun := by
  intro s tag setByte first count m3 m2 m1 m0 set ws hs hf hset hcount hmax hend hws
  have hlt : first.toNat < 128 := by omega
  have hparse := parseWriteWeights_eq (m3 := m3) (m2 := m2) (m1 := m1) (m0 := m0) (f := ⟨first.toNat, hlt⟩) hset rfl hcount
    hmax hend hws
  refine ⟨s.weights.set set (writeRun s.weights[set] first.toNat (weightEntries (be32 m3 m2 m1 m0) ws)), ?exec,
    fun k c => ?entry⟩
  case exec =>
    rw [exec_writeWeights_taken hs hf hparse, TableChange.payload, weightEntries_length, hws, byteOf_toNat, byteOf_toNat,
      byteOf_eq hset]
    rfl
  case entry =>
    rw [Fin.getElem_fin _ k, Vector.getElem_set]
    by_cases hk : k = set
    · subst hk
      rw [if_pos rfl, writeRun_getElem, weightEntries_getD, be32_eq_append]
      by_cases hlo : first.toNat ≤ c.val
      · by_cases hhi : c.val < first.toNat + count.toNat
        · rw [if_pos hlo, if_pos (by omega), if_pos ⟨rfl, hlo, hhi⟩]
        · rw [if_pos hlo, if_neg (by omega), if_neg (fun h => hhi h.2.2)]
      · rw [if_neg hlo, if_neg (fun h => hlo h.2.1)]
    · rw [if_neg (fun h => hk (Fin.ext h.symm)), if_neg (fun h => hk h.1)]
      rfl

/-! ### WRITE_PROFILE, WRITE_REASONS, WRITE_WINDOW and WRITE_DEFAULT (R58 to R60, R70 to R72, R177) -/

theorem gradeOf_eq_some {b : Byte} {g : Grade} : gradeOf b = some g ↔ b.toNat = g.index.val + 1 := by
  revert b
  cases g <;> decide

theorem dispositionOf_eq_some {b : Byte} {k : DispositionClass} : dispositionOf b = some k ↔ b.toNat = k.code := by
  revert b
  cases k <;> decide

theorem spreadOf_eq_some {b : Byte} {sp : Spread} : spreadOf b = some sp ↔ b.toNat = sp.code := by
  revert b
  cases sp <;> decide

/-- With the valid flag clear only the category is read, in either form (R59, R177). -/
theorem parseWriteProfile_cleared {cat : Byte} {c : Fin 64} (hc : cat.toNat = c.val) {params : List Byte}
    (h : params = [cat, 0] ∨ ∃ rest : List Byte, rest.length = 18 ∧ params = cat :: 0 :: rest) :
    parseWriteProfile params = some (.profile c {}) := by
  obtain rfl | ⟨rest, hrest, rfl⟩ := h
  · simp [parseWriteProfile, indexOf_eq_some.mpr hc]
  · match rest, hrest with
    | [_, _, _, _, _, _, _, _, _, _, _, _, _, _, _, _, _, _], _ => simp [parseWriteProfile, indexOf_eq_some.mpr hc, flagOf]

theorem parseWriteProfile_valid {cat set mandatory a1 a0 b1 b0 c1 c0 d1 d0 tol al1 al0 rate cap1 cap0 req points : Byte}
    {c : Fin 64} {st : Fin 16} {r : Bool} (hc : cat.toNat = c.val) (hst : set.toNat = st.val) (hr : req.toNat = r.toNat)
    (hrange : mandatory.toNat < 16 ∧ (be16 a1 a0).toNat ≤ (be16 b1 b0).toNat ∧ (be16 b1 b0).toNat ≤ (be16 c1 c0).toNat ∧
      (be16 c1 c0).toNat ≤ (be16 d1 d0).toNat ∧ (be16 d1 d0).toNat ≤ Config.scoreMax ∧ tol.toNat ≤ 25 ∧
      (be16 al1 al0).toNat ≤ 365 ∧ rate.toNat ≤ 50 ∧ (be16 cap1 cap0).toNat ≤ 1000) :
    parseWriteProfile
        [cat, 1, set, mandatory, a1, a0, b1, b0, c1, c0, d1, d0, tol, al1, al0, rate, cap1, cap0, req, points] =
      some (.profile c
        { valid := true, defectSet := st, mandatory := mandatory.setWidth 4, tA := (be16 a1 a0).toNat,
          tB := (be16 b1 b0).toNat, tC := (be16 c1 c0).toNat, tD := (be16 d1 d0).toNat, tolerance := tol.toNat,
          allowance := (be16 al1 al0).toNat, rate := rate.toNat, cap := (be16 cap1 cap0).toNat, tagsRequired := r,
          tagPoints := points.toNat }) := by
  have hvalid : flagOf 1 = some true := rfl
  simp only [parseWriteProfile, indexOf_eq_some.mpr hc, hvalid, indexOf_eq_some.mpr hst, flagOf_eq_some.mpr hr,
    Option.bind_eq_bind, Option.bind_some, Bool.not_true, Bool.false_eq_true, if_false, if_pos hrange, Option.pure_def]

/-- With the enabled flag clear only grade and index are read, in either form (R71, R177). -/
theorem parseWriteWindow_cleared {grade index : Byte} {g : Grade} {i : Fin 8} (hg : grade.toNat = g.index.val + 1)
    (hi : index.toNat = i.val) {params : List Byte} (h : params = [grade, index, 0] ∨
      ∃ rest : List Byte, rest.length = 10 ∧ params = grade :: index :: 0 :: rest) :
    parseWriteWindow params = some (.window g i {}) := by
  obtain rfl | ⟨rest, hrest, rfl⟩ := h
  · simp [parseWriteWindow, gradeOf_eq_some.mpr hg, indexOf_eq_some.mpr hi]
  · match rest, hrest with
    | [_, _, _, _, _, _, _, _, _, _], _ => simp [parseWriteWindow, gradeOf_eq_some.mpr hg, indexOf_eq_some.mpr hi, flagOf]

/-- A category byte of a window: 255 for ANY, or one category (R70). -/
theorem windowCategory_eq {cat : Byte} {category : Option (Fin 64)}
    (h : cat = 255 ∧ category = none ∨ ∃ c : Fin 64, cat.toNat = c.val ∧ category = some c) :
    windowCategory cat = some category := by
  obtain ⟨rfl, rfl⟩ | ⟨c, hc, rfl⟩ := h
  · rfl
  · have hne : cat ≠ 255 := by
      rintro rfl
      exact absurd c.isLt (hc ▸ by decide)
    rw [windowCategory, if_neg hne, indexOf_eq_some.mpr hc, Option.map_some]

theorem parseTarget_eq {cls first width spread : Byte} {k : DispositionClass} {f : Chute} {sp : Spread}
    (hk : cls.toNat = k.code) (hf : first.toNat = f.val) (hsp : spread.toNat = sp.code) (hmin : 1 ≤ width.toNat)
    (hmax : width.toNat ≤ 8) (hend : first.toNat + width.toNat ≤ 32) :
    parseTarget cls first width spread = some { cls := k, first := f, width := width.toNat, spread := sp } := by
  have hrange : 1 ≤ width.toNat ∧ width.toNat ≤ 8 ∧ f.val + width.toNat - 1 ≤ 31 := ⟨hmin, hmax, by omega⟩
  simp only [parseTarget, dispositionOf_eq_some.mpr hk, indexOf_eq_some.mpr hf, spreadOf_eq_some.mpr hsp,
    Option.bind_eq_bind, Option.bind_some, if_pos hrange, Option.pure_def]

theorem parseWriteDefault_eq {grade cls first width spread : Byte} {g : Grade} {t : Target}
    (hg : grade.toNat = g.index.val + 1) (ht : parseTarget cls first width spread = some t) :
    parseWriteDefault [grade, cls, first, width, spread] = some (.target g t) := by
  simp only [parseWriteDefault, gradeOf_eq_some.mpr hg, ht, Option.bind_eq_bind, Option.bind_some, Option.pure_def]

theorem parseWriteWindow_enabled {grade index cat tiers lo hi r1 r0 cls first width spread : Byte} {g : Grade} {i : Fin 8}
    {category : Option (Fin 64)} {l h : Fin 16} {t : Target} (hg : grade.toNat = g.index.val + 1)
    (hindex : index.toNat = i.val) (hcat : windowCategory cat = some category) (hl : lo.toNat = l.val) (hh : hi.toNat = h.val)
    (ht : parseTarget cls first width spread = some t) (hrange : tiers ≠ 0 ∧ l ≤ h ∧ be16 r1 r0 ≠ 0) :
    parseWriteWindow [grade, index, 1, cat, tiers, lo, hi, r1, r0, cls, first, width, spread] =
      some (.window g i { enabled := true, category := category, tiers := tiers, lo := l, hi := h, reasons := be16 r1 r0,
                          target := t }) := by
  have henabled : flagOf 1 = some true := rfl
  simp only [parseWriteWindow, gradeOf_eq_some.mpr hg, indexOf_eq_some.mpr hindex, henabled, hcat, indexOf_eq_some.mpr hl,
    indexOf_eq_some.mpr hh, ht, Option.bind_eq_bind, Option.bind_some, Bool.not_true, Bool.false_eq_true, if_false,
    if_pos hrange, Option.pure_def]

/-- Settles O22: each command's bytes parse to its change, and the change is the one entry. -/
theorem profilesReasonsAndTargetsAreWritten : Obligations.ProfilesReasonsAndTargetsAreWritten := by
  refine ⟨fun s tag cat c hs hf hc => ⟨?noProfile, ?profile⟩,
    fun s tag grade g hs hf hg => ⟨?reasons, ?noWindow, ?targets⟩⟩
  case noProfile =>
    intro params hparams
    rw [exec_writeProfile_taken hs hf (parseWriteProfile_cleared hc hparams), TableChange.payload, byteOf_eq hc]
    rfl
  case profile =>
    intro set mandatory a1 a0 b1 b0 c1 c0 d1 d0 tol al1 al0 rate cap1 cap0 req points st r hst hr hm hab hbc hcd hmax htol
      hal hrate hcap params profile
    have hparse : parseWriteProfile params = some (.profile c profile) :=
      parseWriteProfile_valid hc hst hr ⟨hm, hab, hbc, hcd, hmax, htol, hal, hrate, hcap⟩
    rw [exec_writeProfile_taken hs hf hparse, TableChange.payload, byteOf_eq hc]
    rfl
  case reasons =>
    intro params hlen
    refine ⟨⟨⟨params⟩, by simpa using hlen⟩, fun r => ?_, ?_⟩
    · have hr : r.val < params.length := by omega
      rw [List.getD_eq_getElem?_getD, List.getElem?_eq_getElem hr, Option.getD_some]
      rfl
    · exact exec_writeReasons_taken hs hf (dif_pos hlen) tag
  case noWindow =>
    intro index i params hi hparams
    rw [exec_writeWindow_taken hs hf (parseWriteWindow_cleared hg hi hparams), TableChange.payload, gradeCode, byteOf_eq hg,
      byteOf_eq hi]
    rfl
  case targets =>
    intro cls first width spread k f sp hk hfirst hsp hmin hmax hend target
    have htarget : parseTarget cls first width spread = some target := parseTarget_eq hk hfirst hsp hmin hmax hend
    constructor
    · rw [exec_writeDefault_taken hs hf (parseWriteDefault_eq hg htarget), TableChange.payload, gradeCode, byteOf_eq hg]
      rfl
    · intro index cat tiers lo hi r1 r0 i category l h hindex hcat hl hh hlh htiers hreasons params window
      have hr : be16 r1 r0 ≠ 0 := fun h0 => hreasons (congrArg BitVec.toNat h0)
      have hparse : parseWriteWindow params = some (.window g i window) :=
        parseWriteWindow_enabled hg hindex (windowCategory_eq hcat) hl hh htarget ⟨htiers, hlh, hr⟩
      rw [exec_writeWindow_taken hs hf hparse, TableChange.payload, gradeCode, byteOf_eq hg, byteOf_eq hindex]
      rfl

end Sys2Proof.Machine
end

section
/-! The read commands: what each answers, byte by byte (R62, R74, R147, R176, R178 to R181). -/

namespace Sys2Proof.Machine

/-! ### Numbers, flags and tables as bytes (R147, R148) -/

/-- Four bytes of a number, by the powers of 2 (R147). -/
theorem bytes4_eq (n : Nat) : bytes4 n = [byteOf (n / 2 ^ 24), byteOf (n / 2 ^ 16), byteOf (n / 2 ^ 8), byteOf n] := by
  have h : n / 65536 / 256 = n / 2 ^ 24 := Nat.div_div_eq_div_mul n 65536 256
  rw [← h]
  rfl

theorem tagsByte_eq (tags : Option Bool) : tagsByte tags = if tags = none then 0 else if tags = some true then 1 else 2 := by
  rcases tags with _ | _ | _ <;> rfl

theorem descriptorByte_eq (d : Option DescriptorIndex) : descriptorByte d = d.elim 255 (fun d => byteOf d.val) := by
  cases d <;> rfl

theorem causeByte_eq (cause : Option CloseCause) : causeByte cause = cause.elim 255 (fun c => byteOf c.code) := by
  cases cause <;> rfl

theorem heldTargetBytes_length (ct : Option ChosenTarget) : (heldTargetBytes ct).length = 5 := by
  cases ct <;> rfl

/-- A table's entries in the order of their places. -/
theorem vector_toList_eq {α : Type} {n : Nat} (v : Vector α n) : v.toList = (List.finRange n).map (fun i => v[i]) := by
  apply List.ext_getElem <;> simp

/-- The entries of a table that hold, counted place by place. -/
theorem vector_countP {α : Type} {n : Nat} (v : Vector α n) (p : α → Bool) :
    v.toList.countP p = (List.finRange n).countP (fun i => p v[i]) := by
  rw [vector_toList_eq, List.countP_map]
  rfl

/-- A window's fields as READ_TABLE sends them (R148, R180). -/
theorem Window.bytes_eq (w : Window) : w.bytes =
    [flagByte w.enabled, w.category.elim 255 (fun c => byteOf c.val), w.tiers, byteOf w.lo.val, byteOf w.hi.val] ++
      bytes2 w.reasons.toNat ++ w.target.bytes := by
  unfold Window.bytes
  cases w.category <;> rfl

/-! ### The snapshots (R178, R179, R181) -/

theorem Context.recordBytes_length (c : Context) (i : ContextIndex) : (c.recordBytes i).length = 48 := by
  simp [Context.recordBytes, bytes2, bytes4, heldTargetBytes_length]

/-- A FREE descriptor's fields are sent as zeros (R179). -/
theorem Descriptor.bytes_free : Descriptor.bytes {} = List.replicate 15 0 := by decide

/-- The bytes of a chute: its record, the fields of the descriptor in use or 15 zeros, and its chain (R179). -/
theorem State.chuteBytes_eq (s : State) (k : Chute) : s.chuteBytes k =
    [byteOf k.val, byteOf (s.chute k).state.code, flagByte (s.chute k).disabled, flagByte (s.chute k).jammed,
      (s.chute k).pending.elim 255 (fun d => byteOf d.val), (s.chute k).active.elim 255 (fun d => byteOf d.val),
      (s.chute k).pendingCause.elim 255 (fun c => byteOf c.code), byteOf (s.ordersAt k)] ++
    (s.chute k).active.elim (List.replicate 15 0) (fun d => (s.descriptor d).bytes) ++ [byteOf (s.chute k).chain.length] ++
    ((s.chute k).chain.take 32).map (fun d => byteOf d.val) := by
  unfold State.chuteBytes
  dsimp only
  rw [descriptorByte_eq, descriptorByte_eq, causeByte_eq]
  cases (s.chute k).active with
  | none => rw [Descriptor.bytes_free]; rfl
  | some d => rfl

theorem State.statusBytes_length (s : State) : s.statusBytes.length = 51 := by
  simp [State.statusBytes, bytes2, Settings.bytes]

theorem State.contextsIn_eq (s : State) (st : ContextState) :
    s.contextsIn st = (List.finRange 256).countP (fun i => (s.context i).state = st) :=
  vector_countP s.contexts _

theorem State.freeCount_eq (s : State) : s.descriptors.toList.countP (fun D => D.state = .free) =
    (List.finRange 128).countP (fun d => (s.descriptor d).state = .free) :=
  vector_countP s.descriptors _

theorem State.portStates_eq (s : State) : s.ports.toList.map (fun P => byteOf P.state.code) =
    (List.finRange 8).map (fun p => byteOf (s.port p).state.code) := by
  rw [vector_toList_eq, List.map_map]
  rfl

/-- The routes in the order of the event kinds' codes (R149, R181). -/
theorem State.routes_toList (s : State) : s.routes.toList =
    [EventKind.portEvent, .frameRejected, .inductRefused, .obsDiscarded, .queueOverrun, .orderExpired, .impliedMiss,
      .unmatchedReport, .strayDivert, .untrackedDivert, .exceptionUnavailable, .chuteEvent].map s.route := by
  have hkinds : List.finRange 12 = [EventKind.portEvent, .frameRejected, .inductRefused, .obsDiscarded, .queueOverrun,
      .orderExpired, .impliedMiss, .unmatchedReport, .strayDivert, .untrackedDivert, .exceptionUnavailable,
      .chuteEvent].map EventKind.index := by decide
  rw [vector_toList_eq, hkinds, List.map_map]
  rfl

/-! ### The answers of the read commands -/

theorem parseReadContext_eq {hi lo part : Byte} {t : Tray} {q : Fin 3} (ht : (hi ++ lo).toNat = t.val)
    (hq : part.toNat = q.val) : parseReadContext [hi, lo, part] = some (t, q) := by
  have htray : trayOf hi lo = some t := parseTray_eq ht
  simp only [parseReadContext, htray, indexOf_eq_some.mpr hq, Option.bind_eq_bind, Option.bind_some, Option.pure_def]

section Answers

variable {s : State} (hs : s.command = none)

include hs

theorem exec_readContext_of {params : List Byte} {r : ResultCode} {payload : List Byte}
    (h : readContextAct params s = (s, .done r payload)) (tag : Byte) :
    exec (.readContext tag params) s = .next (s.finish tag 0x0D params r payload) :=
  congrArg _ (State.runCommand_done hs h)

theorem exec_readContext_notFound {hi lo part : Byte} {t : Tray} {q : Fin 3} (ht : (hi ++ lo).toNat = t.val)
    (hq : part.toNat = q.val) (hmap : s.lookup t = none) (tag : Byte) :
    exec (.readContext tag [hi, lo, part]) s = .next (s.finish tag 0x0D [hi, lo, part] .notFound []) :=
  exec_readContext_of hs (by simp only [readContextAct, parseReadContext_eq ht hq, hmap, refuse]) tag

theorem exec_readContext_found {hi lo part : Byte} {t : Tray} {q : Fin 3} {i : ContextIndex} (ht : (hi ++ lo).toNat = t.val)
    (hq : part.toNat = q.val) (hmap : s.lookup t = some i) (tag : Byte) : exec (.readContext tag [hi, lo, part]) s =
      .next (s.finish tag 0x0D [hi, lo, part] .ok ((s.context i).partBytes i q)) :=
  exec_readContext_of hs (by simp only [readContextAct, parseReadContext_eq ht hq, hmap]) tag

theorem exec_readChute {chute : Byte} {k : Chute} (hk : chute.toNat = k.val) (tag : Byte) :
    exec (.readChute tag [chute]) s = .next (s.finish tag 0x0E [chute] .ok (s.chuteBytes k)) := by
  have hparse : parseChute [chute] = some k := indexOf_eq_some.mpr hk
  exact congrArg _ (State.runCommand_done hs (by simp only [readChuteAct, hparse]))

theorem exec_readStatus (tag : Byte) : exec (.readStatus tag []) s = .next (s.finish tag 0x10 [] .ok s.statusBytes) :=
  congrArg _ (State.runCommand_done hs rfl)

theorem exec_readTable {params fields : List Byte} (h : s.readTable params = some fields) (tag : Byte) :
    exec (.readTable tag params) s = .next (s.finish tag 0x0F params .ok (params ++ fields)) :=
  congrArg _ (State.runCommand_done hs (by simp only [readTableAct, h]))

theorem exec_readTable_refused {params : List Byte} (h : s.readTable params = none) (tag : Byte) :
    exec (.readTable tag params) s = .next (s.finish tag 0x0F params .badParam []) :=
  congrArg _ (State.runCommand_done hs (by simp only [readTableAct, h, refuse]))

end Answers

/-! ### The entry that READ_TABLE addresses (R62, R74, R180) -/

theorem gradeOf_eq_none {b : Byte} : gradeOf b = none ↔ b.toNat = 0 ∨ 6 < b.toNat := by
  revert b
  decide

section Entries

variable (s : State) (a b : Byte)

theorem State.readTable_weights : s.readTable [0, a, b] = (indexOf 16 a).bind fun st => (indexOf 128 b).bind fun c =>
    some [byteOf s.weights[st][c].weight, flagByte s.weights[st][c].manual] := rfl

theorem State.readTable_profiles : s.readTable [1, a, b] = (indexOf 64 a).bind fun c => some s.profiles[c].bytes := rfl

theorem State.readTable_reasons : s.readTable [2, a, b] = (indexOf 16 a).bind fun r => some [s.reasons[r]] := rfl

theorem State.readTable_windows : s.readTable [3, a, b] = (gradeOf a).bind fun g => (indexOf 8 b).bind fun i =>
    some s.windows[g.index][i].bytes := rfl

theorem State.readTable_defaults : s.readTable [4, a, b] = (gradeOf a).bind fun g => some s.defaults[g.index].bytes := rfl

theorem State.readTable_unknown {table : Byte} (h : 4 < table.toNat) : s.readTable [table, a, b] = none := by
  simp only [State.readTable]
  split
  case h_6 => rfl
  all_goals omega

end Entries

/-- The codes of the enumerations, table by table (R147, R160, R176, R178, R181). -/
theorem wireCodes : WireCodes :=
  ⟨rfl, rfl, rfl, rfl, rfl, fun _ => rfl, rfl, rfl, rfl, rfl, rfl, rfl, rfl, rfl, rfl⟩

/-- Settles O46: each read by its answer above, its bytes in the order of its rule. -/
theorem readsReturnSnapshots : Obligations.ReadsReturnSnapshots := by
  unfold Obligations.ReadsReturnSnapshots
  intro high flag
  refine ⟨wireCodes, fun s tag hs => ⟨?notFound, ?context, ?chute, ?status⟩, fun s tag a b hs => ?table⟩
  case notFound =>
    intro hi lo part t ht hpart hmap
    exact exec_readContext_notFound hs (q := ⟨part.toNat, hpart⟩) ht rfl hmap tag
  case context =>
    intro hi lo t i ht hmap c ref measured target record entries
    have hrecord : c.recordBytes i = record := by
      have htarget : heldTargetBytes c.target = target := by
        dsimp only [target]
        cases c.target <;> rfl
      rw [Context.recordBytes, bytes4_eq, tagsByte_eq, htarget]
      rfl
    refine ⟨hrecord ▸ c.recordBytes_length i, ?_, ?_, ?_⟩
    · rw [← hrecord]
      exact exec_readContext_found hs (part := 0) (q := 0) ht rfl hmap tag
    · exact exec_readContext_found hs (part := 1) (q := 1) ht rfl hmap tag
    · exact exec_readContext_found hs (part := 2) (q := 2) ht rfl hmap tag
  case chute =>
    intro chute k hk c index tote
    have htote : (s.chute k).active.elim (List.replicate 15 0) (fun d => (s.descriptor d).bytes) = tote := by
      dsimp only [tote, c]
      cases (s.chute k).active <;> rfl
    rw [exec_readChute hs hk, State.chuteBytes_eq, htote]
    rfl
  case status =>
    intro number free g status
    have hstatus : s.statusBytes = status := by
      rw [State.statusBytes, State.routes_toList, State.portStates_eq, State.freeCount_eq]
      simp only [State.contextsIn_eq, Settings.bytes, bytes2, flagByte, List.map_map, status, number, free, g, high, flag,
        List.append_assoc, List.cons_append, List.nil_append]
      rfl
    exact ⟨hstatus ▸ s.statusBytes_length, hstatus ▸ exec_readStatus hs tag⟩
  case table =>
    intro answers refuses target
    have hanswers : ∀ table entry, s.readTable [table, a, b] = some entry → answers table entry := fun _ _ h =>
      exec_readTable hs h tag
    have hrefuses : ∀ table, s.readTable [table, a, b] = none → refuses table := fun _ h => exec_readTable_refused hs h tag
    refine ⟨fun st c hst hc => hanswers _ _ ?weights, fun c hc => hanswers _ _ ?profile, fun r hr => hanswers _ _ ?reason,
      fun g i hg hi => hanswers _ _ ?window, fun g hg => hanswers _ _ ?default, fun h => hrefuses _ ?noWeights,
      fun h => hrefuses _ ?noProfile, fun h => hrefuses _ ?noReason, fun h => hrefuses _ ?noWindow,
      fun h => hrefuses _ ?noDefault, fun table h => hrefuses table (s.readTable_unknown a b h)⟩
    case weights => rw [s.readTable_weights, indexOf_eq_some.mpr hst, indexOf_eq_some.mpr hc]; rfl
    case profile => rw [s.readTable_profiles, indexOf_eq_some.mpr hc]; rfl
    case reason => rw [s.readTable_reasons, indexOf_eq_some.mpr hr]; rfl
    case window =>
      rw [s.readTable_windows, gradeOf_eq_some.mpr hg, indexOf_eq_some.mpr hi, Option.bind_some, Option.bind_some,
        Window.bytes_eq]
      rfl
    case default => rw [s.readTable_defaults, gradeOf_eq_some.mpr hg]; rfl
    case noWeights =>
      rw [s.readTable_weights]
      rcases h with h | h
      · rw [indexOf_eq_none.mpr h, Option.bind_none]
      · simp only [indexOf_eq_none.mpr h, Option.bind_none, Option.bind_fun_none]
    case noProfile => rw [s.readTable_profiles, indexOf_eq_none.mpr h, Option.bind_none]
    case noReason => rw [s.readTable_reasons, indexOf_eq_none.mpr h, Option.bind_none]
    case noWindow =>
      rw [s.readTable_windows]
      rcases or_assoc.mpr h with h | h
      · rw [gradeOf_eq_none.mpr h, Option.bind_none]
      · simp only [indexOf_eq_none.mpr h, Option.bind_none, Option.bind_fun_none]
    case noDefault => rw [s.readTable_defaults, gradeOf_eq_none.mpr h, Option.bind_none]

end Sys2Proof.Machine
end

section
/-! The disposition matcher's choice of target, and the chutes that a target offers (R66 to R68). -/

namespace Sys2Proof.Machine

/-! ### The first matching window (R66) -/

/-- The search through the indices finds the lowest one that passes. -/
theorem find?_finRange_eq_some {n : Nat} {p : Fin n → Bool} {i : Fin n} (hi : p i = true) (hlow : ∀ j, j < i → p j = false) :
    (List.finRange n).find? p = some i := by
  rw [List.find?_eq_some_iff_getElem]
  refine ⟨hi, i.val, List.length_finRange.symm ▸ i.isLt, List.getElem_finRange _, fun j hj => ?_⟩
  rw [List.getElem_finRange, Bool.not_eq_true']
  exact hlow ⟨j, Nat.lt_trans hj i.isLt⟩ hj

theorem Window.accepts_iff (w : Window) (c : Context) : w.accepts c = true ↔ WindowMatches w c := by
  simp only [Window.accepts, WindowMatches, Bool.and_eq_true, Bool.or_eq_true, beq_iff_eq, decide_eq_true_eq, and_assoc]

theorem Window.accepts_eq_false_iff (w : Window) (c : Context) : w.accepts c = false ↔ ¬ WindowMatches w c := by
  rw [← w.accepts_iff c, Bool.not_eq_true]

theorem State.chooseTarget_first {s : State} {g : Grade} {c : Context} {i : Fin 8}
    (hi : WindowMatches s.windows[g.index][i] c) (hlow : ∀ j : Fin 8, j < i → ¬ WindowMatches s.windows[g.index][j] c) :
    s.chooseTarget g c = { target := s.windows[g.index][i].target, window := some i } := by
  have hfind : (List.finRange 8).find? (fun j => s.windows[g.index][j].accepts c) = some i :=
    find?_finRange_eq_some ((Window.accepts_iff _ c).mpr hi) fun j hj => (Window.accepts_eq_false_iff _ c).mpr (hlow j hj)
  rw [State.chooseTarget, hfind]

theorem State.chooseTarget_default {s : State} {g : Grade} {c : Context}
    (h : ∀ i : Fin 8, ¬ WindowMatches s.windows[g.index][i] c) :
    s.chooseTarget g c = { target := s.defaults[g.index], window := none } := by
  have hfind : (List.finRange 8).find? (fun j => s.windows[g.index][j].accepts c) = none :=
    List.find?_eq_none.mpr fun j _ hj => h j ((Window.accepts_iff _ c).mp hj)
  rw [State.chooseTarget, hfind]

/-! ### The chutes offered (R67, R68) -/

theorem chuteAt_of_lt {n : Nat} (h : n < 32) : chuteAt n = some ⟨n, h⟩ := dif_pos h

/-- A sound target's range does not pass chute 31. -/
theorem TargetSound.add_lt {t : Target} (ht : TargetSound t) {n : Nat} (hn : n < t.width) : t.first.val + n < 32 := by
  obtain ⟨_, _, hrange⟩ := ht
  omega

theorem TargetSound.candidates_size {t : Target} (ht : TargetSound t) (hs : t.spread = .size) (size : Fin 16) :
    ∃ k : Chute, k.val = t.first.val + size.val % t.width ∧ t.candidates size = [k] := by
  have hlt : t.first.val + size.val % t.width < 32 := ht.add_lt (Nat.mod_lt _ ht.1)
  refine ⟨⟨_, hlt⟩, rfl, ?_⟩
  rw [Target.candidates, hs, chuteAt_of_lt hlt, Option.toList_some]

/-- A run of chute numbers that ends by chute 31 keeps every number, in order. -/
theorem filterMap_chuteAt_range {first width : Nat} (h : first + width ≤ 32) :
    ((List.range width).filterMap (fun i => chuteAt (first + i))).map Fin.val = List.range' first width := by
  induction width with
  | zero => rfl
  | succ n ih =>
    have hlast : [n].filterMap (fun i => chuteAt (first + i)) = [⟨first + n, h⟩] :=
      List.filterMap_cons_some (chuteAt_of_lt h)
    rw [List.range_succ, List.filterMap_append, hlast, List.map_append, ih (Nat.le_of_succ_le h), List.range'_1_concat]
    rfl

theorem TargetSound.candidates_fill {t : Target} (ht : TargetSound t) (hs : t.spread = .fill) (size : Fin 16) :
    (t.candidates size).map Fin.val = List.range' t.first.val t.width := by
  obtain ⟨_, _, hrange⟩ := ht
  rw [Target.candidates, hs]
  exact filterMap_chuteAt_range (by omega)

/-- Settles O20: the first window that matches is the one found, and a sound target's chutes are all chutes of the engine. -/
theorem matcherSuppliesTargetAndCandidates : Obligations.MatcherSuppliesTargetAndCandidates := by
  unfold Obligations.MatcherSuppliesTargetAndCandidates
  refine ⟨fun s g c => ⟨fun i => State.chooseTarget_first, State.chooseTarget_default⟩,
    fun t size ht => ⟨fun hs => ht.candidates_size hs size, fun hs => ?fill⟩⟩
  case fill =>
    have hrange := ht.candidates_fill hs size
    have hlength : (t.candidates size).length = t.width := by
      rw [← List.length_map Fin.val, hrange, List.length_range']
    refine ⟨hlength, fun n hn => ?_⟩
    calc ((t.candidates size)[n]).val
        = ((t.candidates size).map Fin.val)[n]'(List.length_map Fin.val ▸ hn) := (List.getElem_map Fin.val).symm
      _ = (List.range' t.first.val t.width)[n]'(List.length_range'.symm ▸ hlength ▸ hn) := List.getElem_of_eq hrange _
      _ = t.first.val + n := by rw [List.getElem_range', Nat.one_mul]

end Sys2Proof.Machine
end

section
/-! Parameters that a parser accepts have its length and ranges, so the command that carries others ends BAD_PARAM (R106, R121, R127, R128, R160, R170, R173, R176, R178, R179). -/

namespace Sys2Proof.Machine

/-! ### What accepted parameters are (R170) -/

/-- A parser that accepts only what fits answers none to what does not. -/
theorem eq_none_of_not_fits {α : Type} {o : Option α} {fits : Prop} (h : ∀ a, o = some a → fits) (hn : ¬ fits) : o = none :=
  Option.eq_none_iff_forall_ne_some.mpr fun a ha => hn (h a ha)

theorem indexOf_toNat_lt {n : Nat} {b : Byte} {i : Fin n} (h : indexOf n b = some i) : b.toNat < n :=
  (indexOf_isSome n b).mp (by rw [h]; rfl)

theorem classOf_toNat_le {b : Byte} {c : StationClass} (h : classOf b = some c) : b.toNat ≤ 3 := by
  unfold classOf at h
  split at h <;> simp_all

theorem routeOf_toNat_le {b : Byte} {r : Route} (h : routeOf b = some r) : b.toNat ≤ 2 := by
  unfold routeOf at h
  split at h <;> simp_all

section Parsers

variable {ps : List Byte}

theorem parseConfigure_fits (g : Settings) (h : parseConfigure ps = some g) :
    ps.length = 9 ∧ numAt ps 1 ≤ 31 ∧ numAt ps 8 ≤ 1 := by
  unfold parseConfigure at h
  split at h
  · next lap chute time wHi wLo hold zone extent lock =>
    obtain ⟨k, hk, h⟩ := Option.bind_eq_some_iff.mp h
    obtain ⟨l, hl, -⟩ := Option.bind_eq_some_iff.mp h
    have hlock : lock.toNat ≤ 1 := (flagOf_isSome lock).mp (by rw [hl]; rfl)
    exact ⟨rfl, Nat.le_of_lt_succ (indexOf_toNat_lt hk), hlock⟩
  · cases h

theorem parsePortConfig_fits (a : StationPort × StationClass) (h : parsePortConfig ps = some a) :
    ps.length = 2 ∧ numAt ps 0 ≤ 7 ∧ numAt ps 1 ≤ 3 := by
  unfold parsePortConfig at h
  split at h
  · next port cls =>
    obtain ⟨p, hp, h⟩ := Option.bind_eq_some_iff.mp h
    obtain ⟨c, hc, -⟩ := Option.bind_eq_some_iff.mp h
    exact ⟨rfl, Nat.le_of_lt_succ (indexOf_toNat_lt hp), classOf_toNat_le hc⟩
  · cases h

theorem parseGo_fits {target : Nat} (p : StationPort) (h : parseGo target ps = some p) :
    ps.length = 2 ∧ numAt ps 0 ≤ 7 ∧ numAt ps 1 = target := by
  unfold parseGo at h
  split at h
  · next port t =>
    obtain ⟨ht, hp⟩ := Option.ite_none_right_eq_some.mp h
    exact ⟨rfl, Nat.le_of_lt_succ (indexOf_toNat_lt hp), ht⟩
  · cases h

theorem parseControl_fits {action : Nat} (k : Chute) (h : parseControl action ps = some k) :
    ps.length = 2 ∧ numAt ps 0 ≤ 31 ∧ numAt ps 1 = action := by
  unfold parseControl at h
  split at h
  · next chute a =>
    obtain ⟨ha, hk⟩ := Option.ite_none_right_eq_some.mp h
    exact ⟨rfl, Nat.le_of_lt_succ (indexOf_toNat_lt hk), ha⟩
  · cases h

theorem parseChute_fits (k : Chute) (h : parseChute ps = some k) : ps.length = 1 ∧ numAt ps 0 ≤ 31 := by
  unfold parseChute at h
  split at h
  · next chute =>
    exact ⟨rfl, Nat.le_of_lt_succ (indexOf_toNat_lt h)⟩
  · cases h

theorem trayOf_fits {hi lo : Byte} {t : Tray} (h : trayOf hi lo = some t) : wordAt [hi, lo] 0 ≤ 1023 := by
  unfold trayOf at h
  split at h
  · next hlt =>
    rw [be16_toNat] at hlt
    exact Nat.le_of_lt_succ hlt
  · cases h

theorem parseTray_fits (t : Tray) (h : parseTray ps = some t) : ps.length = 2 ∧ wordAt ps 0 ≤ 1023 := by
  unfold parseTray at h
  split at h
  · exact ⟨rfl, trayOf_fits h⟩
  · cases h

theorem parseReadContext_fits (a : Tray × Fin 3) (h : parseReadContext ps = some a) :
    ps.length = 3 ∧ wordAt ps 0 ≤ 1023 ∧ numAt ps 2 ≤ 2 := by
  unfold parseReadContext at h
  split at h
  · next hi lo part =>
    obtain ⟨t, ht, h⟩ := Option.bind_eq_some_iff.mp h
    obtain ⟨q, hq, -⟩ := Option.bind_eq_some_iff.mp h
    exact ⟨rfl, trayOf_fits ht, Nat.le_of_lt_succ (indexOf_toNat_lt hq)⟩
  · cases h

theorem State.readTable_fits {s : State} (fields : List Byte) (h : s.readTable ps = some fields) : ps.length = 3 := by
  unfold State.readTable at h
  split at h
  · rfl
  · cases h

theorem parseRoute_fits (a : Fin 12 × Route) (h : parseRoute ps = some a) :
    ps.length = 2 ∧ numAt ps 0 ≠ 0 ∧ numAt ps 0 ≤ 12 ∧ numAt ps 1 ≤ 2 := by
  unfold parseRoute at h
  split at h
  · next kind route =>
    obtain ⟨r, hr, h⟩ := Option.bind_eq_some_iff.mp h
    obtain ⟨hzero, h⟩ := Option.ite_none_left_eq_some.mp h
    obtain ⟨i, hi, -⟩ := Option.bind_eq_some_iff.mp h
    have hkind : (kind - 1).toNat = i.val := indexOf_eq_some.mp hi
    have hpred : (kind - 1).toNat = kind.toNat - 1 := by bv_omega
    have hle : kind.toNat ≤ 12 := by omega
    exact ⟨rfl, hzero, hle, routeOf_toNat_le hr⟩
  · cases h

end Parsers

/-! ### The refusals (R170) -/

section Refusals

variable {s : State} {params : List Byte} (hs : s.command = none)

include hs

/-- An execution that refuses ends with the refusal's result and changes nothing else. -/
theorem runCommand_refused {act : State → State × Reply} {r : ResultCode} (h : act s = refuse s r) (tag code : Byte) :
    s.runCommand tag code params act = s.finish tag code params r [] :=
  State.runCommand_done hs h

/-- A PORT_GO whose bytes are not a port and the row's own target. -/
theorem runCommand_goAct_refused {target : Nat} (h : ¬ (params.length = 2 ∧ numAt params 0 ≤ 7 ∧ numAt params 1 = target))
    (effect : State → StationPort → Option State) (tag : Byte) :
    s.runCommand tag 0x03 params (goAct target params effect) = s.finish tag 0x03 params .badParam [] :=
  runCommand_refused hs (by simp only [goAct, eq_none_of_not_fits parseGo_fits h]) tag 0x03

theorem runCommand_goDetachAct_refused (h : ¬ (params.length = 2 ∧ numAt params 0 ≤ 7 ∧ numAt params 1 = 0)) (tag : Byte) :
    s.runCommand tag 0x03 params (goDetachAct params) = s.finish tag 0x03 params .badParam [] :=
  runCommand_refused hs (by simp only [goDetachAct, eq_none_of_not_fits parseGo_fits h]) tag 0x03

/-- A CHUTE_CONTROL whose bytes are not a chute and the row's own action. -/
theorem runCommand_controlAct_refused {action : Nat}
    (h : ¬ (params.length = 2 ∧ numAt params 0 ≤ 31 ∧ numAt params 1 = action))
    (effect : State → Chute → Option State) (tag : Byte) :
    s.runCommand tag 0x0B params (controlAct action params effect) = s.finish tag 0x0B params .badParam [] :=
  runCommand_refused hs (by simp only [controlAct, eq_none_of_not_fits parseControl_fits h]) tag 0x0B

end Refusals

/-- Settles O6: no parser accepts parameters outside its length and ranges. -/
theorem malformedCommandIsRefused : Obligations.MalformedCommandIsRefused := by
  intro s tag params hs
  refine ⟨fun code => ?badCommand, fun h => ?configure, fun h => ?portConfig, fun h => ?portGo, fun h => ?goTarget,
    fun h => ?chainLoad, fun h => ?chuteControl, fun h => ?controlAction, fun h => ?chute, fun h => ?tray,
    fun h => ?readContext, fun h => ?readTable, fun h => ?eventRoute, fun h => ?noParams⟩
  case badCommand => exact congrArg _ (runCommand_refused hs rfl tag code)
  case configure =>
    have hp : parseConfigure params = none := eq_none_of_not_fits parseConfigure_fits (by omega)
    exact congrArg _ (runCommand_refused hs (by simp only [configureAct, hp]) tag 0x01)
  case portConfig =>
    have hp : parsePortConfig params = none := eq_none_of_not_fits parsePortConfig_fits (by omega)
    exact congrArg _ (runCommand_refused hs (by simp only [portConfigAct, hp]) tag 0x02)
  case portGo =>
    have hgo : ∀ target, ¬ (params.length = 2 ∧ numAt params 0 ≤ 7 ∧ numAt params 1 = target) := by omega
    simp only [List.forall_mem_cons, List.not_mem_nil, false_implies, implies_true, and_true]
    exact ⟨congrArg _ (runCommand_goDetachAct_refused hs (hgo 0) tag), congrArg _ (runCommand_goAct_refused hs (hgo 1) _ tag),
      congrArg _ (runCommand_goAct_refused hs (hgo 2) _ tag), congrArg _ (runCommand_goAct_refused hs (hgo 3) _ tag),
      congrArg _ (runCommand_goAct_refused hs (hgo 4) _ tag), congrArg _ (runCommand_goAct_refused hs (hgo 5) _ tag),
      congrArg _ (runCommand_goAct_refused hs (hgo 6) _ tag)⟩
  case goTarget => exact congrArg _ (runCommand_goDetachAct_refused hs (by omega) tag)
  case chainLoad =>
    have hp : parseChainLoad params = none := Option.not_isSome_iff_eq_none.mp (mt (parseChainLoad_isSome params).mp h)
    exact congrArg _ (runCommand_refused hs (by simp only [chainLoadAct, hp]) tag 0x09)
  case chuteControl =>
    have hcontrol : ∀ action, ¬ (params.length = 2 ∧ numAt params 0 ≤ 31 ∧ numAt params 1 = action) := by omega
    simp only [List.forall_mem_cons, List.not_mem_nil, false_implies, implies_true, and_true]
    exact ⟨congrArg _ (runCommand_controlAct_refused hs (hcontrol 0) _ tag),
      congrArg _ (runCommand_controlAct_refused hs (hcontrol 1) _ tag),
      congrArg _ (runCommand_controlAct_refused hs (hcontrol 2) _ tag),
      congrArg _ (runCommand_controlAct_refused hs (hcontrol 3) _ tag)⟩
  case controlAction => exact congrArg _ (runCommand_controlAct_refused hs (by omega) _ tag)
  case chute =>
    have hp : parseChute params = none := eq_none_of_not_fits parseChute_fits (by omega)
    exact ⟨congrArg _ (runCommand_refused hs (by simp only [chainClearAct, hp]) tag 0x0A),
      congrArg _ (runCommand_refused hs (by simp only [readChuteAct, hp]) tag 0x0E)⟩
  case tray =>
    have hp : parseTray params = none := eq_none_of_not_fits parseTray_fits (by omega)
    exact congrArg _ (runCommand_refused hs (by simp only [abandonTrayAct, hp]) tag 0x0C)
  case readContext =>
    have hp : parseReadContext params = none := eq_none_of_not_fits parseReadContext_fits (by omega)
    exact congrArg _ (runCommand_refused hs (by simp only [readContextAct, hp]) tag 0x0D)
  case readTable => exact exec_readTable_refused hs (eq_none_of_not_fits State.readTable_fits h) tag
  case eventRoute =>
    have hp : parseRoute params = none := eq_none_of_not_fits parseRoute_fits (by omega)
    exact congrArg _ (runCommand_refused hs (by simp only [eventRouteAct, hp]) tag 0x11)
  case noParams =>
    exact ⟨congrArg _ (runCommand_refused hs (if_neg h) tag 0x10), congrArg _ (runCommand_refused hs (if_neg h) tag 0x12),
      congrArg _ (runCommand_refused hs (if_neg h) tag 0x13)⟩

end Sys2Proof.Machine
end

section
/-! A closing tote, the calls to close, the flags of a chute, and the next tote of a chain (R108, R109, R114 to R119, R121, R122, R176). -/

namespace Sys2Proof.Machine

/-! ### A closing tote (R108, R117, R118, R158) -/

/-- A chute that has entered SWAPPING on descriptor d with the rest of its chain behind it (R108). -/
def ChuteRecord.swappingOn (c : ChuteRecord) (d : DescriptorIndex) (rest : List DescriptorIndex) : ChuteRecord :=
  { c with state := .swapping, pending := some d, active := none, chain := rest, pendingCause := none }

/-- A chute with a non-empty chain enters SWAPPING on its head. -/
theorem State.enterSwapping_eq {s : State} {k : Chute} {d : DescriptorIndex} {rest : List DescriptorIndex}
    (h : (s.chute k).chain = d :: rest) :
    s.enterSwapping k = (s.modChute k (fun c => c.swappingOn d rest)).offerEvent (.chuteEvent k .swapping) := by
  simp only [State.enterSwapping, h]
  rfl

/-- A closed descriptor's record enters a queue with room and the descriptor becomes FREE, or both wait. -/
theorem State.closeDescriptor_eq (s : State) (k : Chute) (d : DescriptorIndex) (cause : CloseCause) :
    s.closeDescriptor k d cause =
      if s.outbound.length < 64 then
        State.modDescriptor { s with outbound := s.outbound ++ [.tote ((s.descriptor d).toteRecord k cause)] } d (fun _ => {})
      else State.modDescriptor { s with
          waitingTotes := s.waitingTotes ++ [{ descriptor := d, record := (s.descriptor d).toteRecord k cause }] } d
        (fun D => { D with state := .closed, closeCause := some cause }) := by
  unfold State.closeDescriptor
  rcases State.offerTote_cases (s.modDescriptor d (fun D => { D with state := .closed, closeCause := some cause }))
    { descriptor := d, record := (s.descriptor d).toteRecord k cause } with ⟨hroom, h⟩ | ⟨hfull, h⟩
  · rw [State.modDescriptor_outbound] at hroom
    rw [h, State.modDescriptor_modDescriptor, if_pos hroom]
    rfl
  · rw [State.modDescriptor_outbound] at hfull
    rw [h, if_neg (Nat.not_lt.mpr hfull)]
    rfl

@[simp] theorem State.closeDescriptor_chute (s : State) (k j : Chute) (d : DescriptorIndex) (cause : CloseCause) :
    (s.closeDescriptor k d cause).chute j = s.chute j := by
  rw [State.closeDescriptor_eq]
  split <;> rfl

section Closing

variable {s : State} {k : Chute} {d : DescriptorIndex} (ha : (s.chute k).active = some d) (cause : CloseCause)

include ha

/-- A tote with the continue flag and a tote behind it hands over to that one (R117). -/
theorem State.closeTote_continues {h : DescriptorIndex} {rest : List DescriptorIndex}
    (hflag : (s.descriptor d).continueFlag = true) (hchain : (s.chute k).chain = h :: rest) : s.closeTote k cause =
      ((s.closeDescriptor k d cause).modChute k (fun c => c.swappingOn h rest)).offerEvent (.chuteEvent k .swapping) := by
  have hgo : ((s.descriptor d).continueFlag && !(s.chute k).chain.isEmpty) = true := by simp [hflag, hchain]
  simp only [State.closeTote, ha]
  rw [if_pos hgo, State.enterSwapping_eq (d := h) (rest := rest) (by simp [hchain]), State.modChute_modChute]
  rfl

/-- A tote without the continue flag, or the last of its chain, leaves the chute EXHAUSTED (R117). -/
theorem State.closeTote_exhausts (hlast : (s.descriptor d).continueFlag = false ∨ (s.chute k).chain = []) :
    s.closeTote k cause = ((s.closeDescriptor k d cause).modChute k (fun c => { c with
      state := .exhausted, active := none, pendingCause := none })).offerEvent (.chuteEvent k .exhausted) := by
  have hstop : ¬ ((s.descriptor d).continueFlag && !(s.chute k).chain.isEmpty) = true := by
    rcases hlast with h | h <;> simp [h]
  simp only [State.closeTote, ha]
  rw [if_neg hstop, State.modChute_modChute]
  rfl

end Closing

/-- Settles O30: the descriptor closes, then the chute takes its next state by the continue flag and the chain. -/
theorem closedToteHandsOverTheChute : Obligations.ClosedToteHandsOverTheChute := by
  intro s k cause d ha
  have hclose := s.closeDescriptor_eq k d cause
  refine ⟨fun h rest hflag hchain => ?_, fun hlast => ?_⟩
  · rw [State.closeTote_continues ha cause hflag hchain, hclose]
    rfl
  · rw [State.closeTote_exhausts ha cause hlast, hclose]
    rfl

/-! ### CHUTE_CONTROL (R115, R119, R121, R176) -/

@[simp] theorem State.offerEvent_chute (s : State) (a : Advisory) (k : Chute) : (s.offerEvent a).chute k = s.chute k := by
  rw [State.offerEvent_frame]; rfl

section Control

variable {s t : State} {chute action : Byte} {k : Chute} (hs : s.command = none) (hk : chute.toNat = k.val)

include hk

theorem parseControl_eq (action : Byte) : parseControl action.toNat [chute, action] = some k := by
  simp only [parseControl, if_pos, indexOf_eq_some.mpr hk]

include hs

/-- An action that the chute's state allows ends OK with the chute, the action and the state it left (R176). -/
theorem runCommand_controlAct_ok {effect : State → Chute → Option State} (he : effect s k = some t) (tag : Byte) :
    s.runCommand tag 0x0B [chute, action] (controlAct action.toNat [chute, action] effect) =
      t.finish tag 0x0B [chute, action] .ok [chute, action, byteOf (t.chute k).state.code] := by
  refine State.runCommand_done hs ?_
  simp only [controlAct, parseControl_eq hk, he, State.controlPayload, byteOf_toNat, byteOf_eq hk]

/-- An action that the chute's state does not allow is refused. -/
theorem runCommand_controlAct_refusedState {effect : State → Chute → Option State} (he : effect s k = none) (tag : Byte) :
    s.runCommand tag 0x0B [chute, action] (controlAct action.toNat [chute, action] effect) =
      s.finish tag 0x0B [chute, action] .refusedState [] :=
  runCommand_refused hs (by simp only [controlAct, parseControl_eq hk, he]) tag 0x0B

end Control

/-- A frame of the sorter is taken while its link is UP. -/
theorem State.sorterFrame_up {s : State} (hup : s.sorterLink = .up) (taken : State) : s.sorterFrame taken = taken := if_pos hup

/-- Settles O34: a flag leaves the state of its chute, which the payload carries, and the sorter's signals ask for its link alone. -/
theorem chuteFlagsAreWrittenInAnyState : Obligations.ChuteFlagsAreWrittenInAnyState := by
  intro s k
  refine ⟨fun tag chute hs hk => ⟨?enable, ?disable⟩, fun hup => ⟨?jam, ?clear⟩⟩
  case enable =>
    refine congrArg _ ((runCommand_controlAct_ok hs hk rfl tag).trans ?_)
    rw [State.chute_modChute_self]
  case disable =>
    refine congrArg _ ((runCommand_controlAct_ok hs hk rfl tag).trans ?_)
    rw [State.chute_modChute_self]
  case jam => exact congrArg _ (State.sorterFrame_up hup _)
  case clear => exact congrArg _ (State.sorterFrame_up hup _)

/-! ### Calls to close (R114, R115) -/

theorem State.callClose_settled {s : State} {k : Chute} (h : s.ordersAt k = 0) (cause : CloseCause) :
    s.callClose k cause = s.closeTote k cause := if_pos h

theorem State.callClose_outstanding {s : State} {k : Chute} (h : s.ordersAt k ≠ 0) (cause : CloseCause) :
    s.callClose k cause = (s.modChute k (fun c => { c with state := .closing, pendingCause := some cause })).offerEvent
      (.chuteEvent k .closing) := if_neg h

section Calls

variable {s : State} {k : Chute}

theorem exec_toteFull_opened (hup : s.sorterLink = .up) (ho : (s.chute k).state = .opened) :
    exec (.toteFull k) s = .next (s.callClose k .fullSignal) :=
  congrArg _ ((State.sorterFrame_up hup _).trans (if_pos ho))

theorem exec_toteFull_ignored (hup : s.sorterLink = .up) (ho : (s.chute k).state ≠ .opened) :
    exec (.toteFull k) s = .next (s.offerEvent (.chuteEvent k .fullIgnored)) :=
  congrArg _ ((State.sorterFrame_up hup _).trans (if_neg ho))

theorem exec_closeNow_opened {chute : Byte} (hs : s.command = none) (hk : chute.toNat = k.val)
    (ho : (s.chute k).state = .opened) (tag : Byte) : exec (.closeNow tag [chute, 2]) s =
      .next ((s.callClose k .forced).finish tag 0x0B [chute, 2] .ok
        [chute, 2, byteOf ((s.callClose k .forced).chute k).state.code]) :=
  congrArg _ (runCommand_controlAct_ok hs hk (if_pos ho) tag)

theorem exec_closeNow_refused {chute : Byte} (hs : s.command = none) (hk : chute.toNat = k.val)
    (ho : (s.chute k).state ≠ .opened) (tag : Byte) :
    exec (.closeNow tag [chute, 2]) s = .next (s.finish tag 0x0B [chute, 2] .refusedState []) :=
  congrArg _ (runCommand_controlAct_refusedState hs hk (if_neg ho) tag)

end Calls

/-- Settles O35: both calls are one call to close of an OPEN chute, by its orders outstanding. -/
theorem closeIsCalledOnAnOpenChute : Obligations.CloseIsCalledOnAnOpenChute := by
  intro s k
  refine ⟨fun hup => ⟨fun ho hz => ?_, fun ho hn => ?_, exec_toteFull_ignored hup⟩,
    fun tag chute hs hk => ⟨fun ho hz => ?_, fun ho hn => ?_, fun ho => exec_closeNow_refused hs hk ho tag⟩⟩
  · rw [exec_toteFull_opened hup ho, State.callClose_settled hz]
  · rw [exec_toteFull_opened hup ho, State.callClose_outstanding hn]
  · rw [exec_closeNow_opened hs hk ho, State.callClose_settled hz]
  · rw [exec_closeNow_opened hs hk ho, State.callClose_outstanding hn, State.offerEvent_chute, State.chute_modChute_self]
    rfl

/-! ### The next tote (R108, R109, R119) -/

theorem toteMatches_iff (wanted read : BitVec 16) : toteMatches wanted read = true ↔ read ≠ 0 ∧ (wanted = 0 ∨ wanted = read) := by
  simp [toteMatches]

section Next

variable {s : State} {k : Chute}

theorem exec_advance_taken {chute : Byte} {h : DescriptorIndex} {rest : List DescriptorIndex} (hs : s.command = none)
    (hk : chute.toNat = k.val) (hstate : (s.chute k).state = .exhausted) (hchain : (s.chute k).chain = h :: rest) (tag : Byte) :
    exec (.advance tag [chute, 3]) s = .next (((s.modChute k (fun c => c.swappingOn h rest)).offerEvent
      (.chuteEvent k .swapping)).finish tag 0x0B [chute, 3] .ok [chute, 3, 1]) := by
  have hne : (s.chute k).chain ≠ [] := by simp [hchain]
  refine congrArg _ ((runCommand_controlAct_ok hs hk (if_pos ⟨hstate, hne⟩) tag).trans ?_)
  rw [State.enterSwapping_eq hchain, State.offerEvent_chute, State.chute_modChute_self]
  rfl

theorem exec_advance_refused {chute : Byte} (hs : s.command = none) (hk : chute.toNat = k.val)
    (h : (s.chute k).state ≠ .exhausted ∨ (s.chute k).chain = []) (tag : Byte) :
    exec (.advance tag [chute, 3]) s = .next (s.finish tag 0x0B [chute, 3] .refusedState []) := by
  have hnot : ¬ ((s.chute k).state = .exhausted ∧ (s.chute k).chain ≠ []) := fun ⟨hstate, hchain⟩ =>
    h.elim (fun hother => hother hstate) hchain
  exact congrArg _ (runCommand_controlAct_refusedState hs hk (if_neg hnot) tag)

/-- A TOTE_IN_PLACE at a SWAPPING chute goes by the match of the id read. -/
theorem toteInPlace_swapping {d : DescriptorIndex} (hstate : (s.chute k).state = .swapping)
    (hpending : (s.chute k).pending = some d) (x : BitVec 16) : toteInPlace k x s =
      if toteMatches (s.descriptor d).toteId x then
        ((s.modDescriptor d (fun D => { D with
          state := .active, committedItems := 0, committedGrams := 0, reservedItems := 0, reservedGrams := 0, strays := 0,
          readId := x })).modChute k (fun c => { c with
            state := .opened, active := some d, pending := none })).offerEvent (.chuteEvent k .opened)
      else s.offerEvent (.chuteEvent k (.toteMismatch x)) := by
  simp only [toteInPlace, hstate, hpending]
  rfl

/-- In every other state the signal changes nothing (R109). -/
theorem toteInPlace_ignored (hstate : (s.chute k).state ≠ .swapping) (x : BitVec 16) : toteInPlace k x s = s := by
  unfold toteInPlace
  split
  · next h _ => exact absurd h hstate
  · rfl

end Next

/-- Settles O36: ADVANCE enters SWAPPING on the head of the chain, and TOTE_IN_PLACE goes by the match of the id read. -/
theorem nextToteIsAdvancedAndPlaced : Obligations.NextToteIsAdvancedAndPlaced := by
  intro s k
  refine ⟨fun tag chute hs hk => ⟨fun h rest hstate hchain => exec_advance_taken hs hk hstate hchain tag,
      fun h => exec_advance_refused hs hk h tag⟩,
    fun x d hup hstate hpending => ⟨fun hx hid => ?matched, fun hx => ?mismatched⟩, fun x hup hstate => ?ignored⟩
  case matched =>
    have hmatch := (toteMatches_iff (s.descriptor d).toteId x).mpr ⟨hx, hid⟩
    exact congrArg _ ((State.sorterFrame_up hup _).trans ((toteInPlace_swapping hstate hpending x).trans (if_pos hmatch)))
  case mismatched =>
    have hmiss : ¬ toteMatches (s.descriptor d).toteId x = true := fun hmatch => by
      obtain ⟨hread, hid⟩ := (toteMatches_iff (s.descriptor d).toteId x).mp hmatch
      rcases hx with hzero | ⟨hwanted, hother⟩
      · exact hread hzero
      · exact hid.elim hwanted hother
    exact congrArg _ ((State.sorterFrame_up hup _).trans ((toteInPlace_swapping hstate hpending x).trans (if_neg hmiss)))
  case ignored => exact congrArg _ ((State.sorterFrame_up hup _).trans (toteInPlace_ignored hstate x))

end Sys2Proof.Machine
end

section
/-! CHAIN_LOAD: the descriptors it takes, what it writes in them, and the chute after it (R104, R106 to R108). -/

namespace Sys2Proof.Machine

/-! ### The FREE descriptors (R106) -/

theorem State.mem_freeDescriptors (s : State) (d : DescriptorIndex) : d ∈ s.freeDescriptors ↔ (s.descriptor d).state = .free := by
  simp [State.freeDescriptors, allDescriptors]

theorem State.freeDescriptors_pairwise (s : State) : s.freeDescriptors.Pairwise (fun d e => d < e) :=
  (List.pairwise_lt_finRange 128).filter _

theorem State.freeDescriptors_nodup (s : State) : s.freeDescriptors.Nodup := (List.nodup_finRange 128).filter _

/-! ### The descriptor store after a load (R104, R106, R107) -/

/-- Two changes of the descriptor store alone are one. -/
theorem storeChange_trans {s t u : State} (h : t = { s with descriptors := t.descriptors })
    (h' : u = { t with descriptors := u.descriptors }) : u = { s with descriptors := u.descriptors } := by
  rw [h', h]

theorem State.fillDescriptors_frame (l : List (DescriptorIndex × ToteEntry)) (s : State) :
    s.fillDescriptors l = { s with descriptors := (s.fillDescriptors l).descriptors } := by
  induction l generalizing s with
  | nil => rfl
  | cons de rest ih => exact storeChange_trans (t := s.modDescriptor de.1 _) rfl (ih _)

theorem State.linkLast_frame (s : State) (last first : Option DescriptorIndex) :
    s.linkLast last first = { s with descriptors := (s.linkLast last first).descriptors } := by
  cases last <;> rfl

/-- A descriptor that is not taken is not written. -/
theorem State.fillDescriptors_other {l : List (DescriptorIndex × ToteEntry)} (s : State) {d : DescriptorIndex}
    (h : d ∉ l.map Prod.fst) : (s.fillDescriptors l).descriptor d = s.descriptor d := by
  induction l generalizing s with
  | nil => rfl
  | cons de rest ih =>
    obtain ⟨hne, hrest⟩ : d ≠ de.1 ∧ d ∉ rest.map Prod.fst := by simpa using h
    rw [State.fillDescriptors, ih _ hrest, State.descriptor_modDescriptor, if_neg hne.symm]

/-- A taken descriptor takes its entry and names the one taken after it. -/
theorem State.fillDescriptors_taken {l : List (DescriptorIndex × ToteEntry)} (hl : (l.map Prod.fst).Nodup) (s : State)
    (n : Nat) (hn : n < l.length) :
    (s.fillDescriptors l).descriptor l[n].1 = l[n].2.descriptor (l[n + 1]?.map Prod.fst) := by
  induction l generalizing s n with
  | nil => exact absurd hn (Nat.not_lt_zero n)
  | cons de rest ih =>
    obtain ⟨hnot, hrest⟩ := List.nodup_cons.mp hl
    cases n with
    | zero =>
      rw [List.getElem_cons_zero, State.fillDescriptors, State.fillDescriptors_other _ hnot, State.descriptor_modDescriptor_self,
        List.getElem?_cons_succ, List.head?_eq_getElem?]
    | succ n =>
      rw [State.fillDescriptors]
      exact ih hrest _ n (Nat.lt_of_succ_lt_succ hn)

theorem State.linkLast_descriptor (s : State) (last first : Option DescriptorIndex) (d : DescriptorIndex) :
    (s.linkLast last first).descriptor d =
      if last = some d then { s.descriptor d with next := first } else s.descriptor d := by
  cases last with
  | none => rfl
  | some e =>
    rw [State.linkLast, State.descriptor_modDescriptor]
    simp only [Option.some.injEq]
    split
    · next h => rw [h]
    · rfl

/-- The descriptor store once a CHAIN_LOAD has written its entries and linked them to the sequence of chute k. -/
def State.loadedStore (s : State) (k : Chute) (es : List ToteEntry) : Vector Descriptor 128 :=
  ((s.fillDescriptors ((s.freeDescriptors.take es.length).zip es)).linkLast (s.chute k).lastOfSequence
    (s.freeDescriptors.take es.length).head?).descriptors

theorem State.linkLast_fillDescriptors (s : State) (k : Chute) (es : List ToteEntry) :
    (s.fillDescriptors ((s.freeDescriptors.take es.length).zip es)).linkLast (s.chute k).lastOfSequence
      (s.freeDescriptors.take es.length).head? = { s with descriptors := s.loadedStore k es } :=
  storeChange_trans (State.fillDescriptors_frame _ s) (State.linkLast_frame _ _ _)

section Store

variable {s : State} {k : Chute} {es : List ToteEntry}

/-- What stands at a descriptor after a load: what the fill left, linked where the sequence ended there. -/
theorem State.loadedStore_getElem (d : DescriptorIndex) : (s.loadedStore k es)[d] =
    if (s.chute k).lastOfSequence = some d then
      { (s.fillDescriptors ((s.freeDescriptors.take es.length).zip es)).descriptor d with
        next := (s.freeDescriptors.take es.length).head? }
    else (s.fillDescriptors ((s.freeDescriptors.take es.length).zip es)).descriptor d :=
  State.linkLast_descriptor _ _ _ d

theorem State.map_fst_taken (hroom : es.length ≤ s.freeDescriptors.length) :
    ((s.freeDescriptors.take es.length).zip es).map Prod.fst = s.freeDescriptors.take es.length :=
  List.map_fst_zip (by simp [hroom])

theorem State.loadedStore_other (hroom : es.length ≤ s.freeDescriptors.length) {d : DescriptorIndex}
    (hd : d ∉ s.freeDescriptors.take es.length) : (s.loadedStore k es)[d] =
      if (s.chute k).lastOfSequence = some d then
        { s.descriptor d with next := (s.freeDescriptors.take es.length).head? }
      else s.descriptor d := by
  rw [State.loadedStore_getElem, State.fillDescriptors_other s (by rwa [State.map_fst_taken hroom])]

/-- A taken descriptor was FREE, so the sequence did not end there. -/
theorem State.loadedStore_taken (hroom : es.length ≤ s.freeDescriptors.length)
    (hlast : ∀ d, (s.chute k).lastOfSequence = some d → (s.descriptor d).state ≠ .free)
    (n : Nat) (h : n < (s.freeDescriptors.take es.length).length) (hn : n < es.length) :
    (s.loadedStore k es)[(s.freeDescriptors.take es.length)[n]] =
      es[n].descriptor (s.freeDescriptors.take es.length)[n + 1]? := by
  have hfree : (s.descriptor (s.freeDescriptors.take es.length)[n]).state = .free :=
    (s.mem_freeDescriptors _).mp (List.mem_of_mem_take (List.getElem_mem h))
  have hnodup : (((s.freeDescriptors.take es.length).zip es).map Prod.fst).Nodup := by
    rw [State.map_fst_taken hroom]
    exact s.freeDescriptors_nodup.sublist (List.take_sublist _ _)
  have hzip : n < ((s.freeDescriptors.take es.length).zip es).length := by
    rw [List.length_zip]
    exact Nat.lt_min.mpr ⟨h, hn⟩
  have htaken := State.fillDescriptors_taken hnodup s n hzip
  rw [← List.getElem?_map, State.map_fst_taken hroom, List.getElem_zip] at htaken
  rw [State.loadedStore_getElem, if_neg (fun hl => hlast _ hl hfree)]
  exact htaken

end Store

/-! ### The bytes of an entry (R106, R176) -/

/-- An entry's fields by their places in the parameters, behind the chute and the count. -/
theorem entryAt_drop (ps : List Byte) (n : Nat) : entryAt (ps.drop 2) n =
    { toteId := ps.getD (2 + 6 * n) 0 ++ ps.getD (3 + 6 * n) 0, capacity := numAt ps (4 + 6 * n),
      weightLimit := wordAt ps (5 + 6 * n), continueFlag := numAt ps (7 + 6 * n) == 1 } := by
  have hplace : ∀ i j : Nat, j = 2 + i → (ps.drop 2).getD i 0 = ps.getD j 0 := by
    rintro i _ rfl
    simp only [List.getD_eq_getElem?_getD, List.getElem?_drop]
  unfold entryAt wordAt numAt
  rw [hplace _ (2 + 6 * n) (by omega), hplace _ (3 + 6 * n) (by omega), hplace _ (4 + 6 * n) (by omega),
    hplace _ (5 + 6 * n) (by omega), hplace _ (5 + 6 * n + 1) (by omega), hplace _ (7 + 6 * n) (by omega)]

/-! ### The answers of CHAIN_LOAD (R106, R107) -/

section Answers

variable {s : State} {params : List Byte} {k : Chute} {es : List ToteEntry} (hs : s.command = none)
  (hp : parseChainLoad params = some (k, es))

include hs hp

theorem exec_chainLoad_noSpace (h : s.freeDescriptors.length < es.length) (tag : Byte) :
    exec (.chainLoad tag params) s = .next (s.finish tag 0x09 params .noSpace []) :=
  congrArg _ (runCommand_refused hs (by simp only [chainLoadAct, hp, if_pos h]) tag 0x09)

/-- With descriptors enough the store is loaded and the chain grows; an UNCONFIGURED or EXHAUSTED chute then starts. -/
theorem exec_chainLoad_taken (hroom : es.length ≤ s.freeDescriptors.length) (tag : Byte) :
    exec (.chainLoad tag params) s =
      let loaded := State.modChute { s with descriptors := s.loadedStore k es } k
        (fun c => { c with chain := c.chain ++ s.freeDescriptors.take es.length })
      .next ((if (s.chute k).state = .unconfigured ∨ (s.chute k).state = .exhausted then loaded.enterSwapping k
        else loaded).finish tag 0x09 params .ok
          (byteOf k.val :: byteOf es.length :: (s.freeDescriptors.take es.length).map (fun d => byteOf d.val))) := by
  have hlen : (s.freeDescriptors.take es.length).length = es.length := List.length_take_of_le hroom
  refine congrArg _ (State.runCommand_done hs ?_)
  simp only [chainLoadAct, hp, if_neg (Nat.not_lt.mpr hroom), State.linkLast_fillDescriptors, hlen]
  cases (s.chute k).state <;> rfl

end Answers

/-- Settles O32: the bytes parse to the chute and its entries, and the store is read descriptor by descriptor. -/
theorem chainLoadAppendsTotes : Obligations.ChainLoadAppendsTotes := by
  intro s tag params k count hs hfits hk hcount hlast
  obtain ⟨⟨k', es⟩, hp⟩ := Option.isSome_iff_exists.mp ((parseChainLoad_isSome params).mpr hfits)
  obtain ⟨-, hk', hlength, hentries⟩ := (parseChainLoad_eq_some params k' es).mp hp
  obtain rfl : k' = k := Fin.ext (hk'.symm.trans hk)
  obtain rfl : es.length = count := hlength.trans hcount
  refine ⟨s.freeDescriptors_pairwise, s.mem_freeDescriptors, fun h => exec_chainLoad_noSpace hs hp h tag, fun hroom => ?_⟩
  have hlen : (s.freeDescriptors.take es.length).length = es.length := List.length_take_of_le hroom
  refine ⟨s.loadedStore k' es, fun n h => ?taken, fun d hd => State.loadedStore_other hroom hd,
    fun h rest hstate hchain => ?starts, fun hu he => ?joins⟩
  case taken =>
    have hn : n < es.length := hlen ▸ h
    rw [State.loadedStore_taken hroom hlast n h hn, hentries n hn, entryAt_drop]
    rfl
  case starts =>
    rw [exec_chainLoad_taken hs hp hroom]
    dsimp only
    rw [if_pos hstate, State.enterSwapping_eq (d := h) (rest := rest) (by rw [State.chute_modChute_self]; exact hchain),
      State.modChute_modChute]
    rfl
  case joins =>
    rw [exec_chainLoad_taken hs hp hroom]
    dsimp only
    rw [if_neg (not_or.mpr ⟨hu, he⟩)]

end Sys2Proof.Machine
end

section
/-! CHAIN_CLEAR: the tote in place closes CLEARED, the rest of the sequence becomes FREE, and the chute is UNCONFIGURED (R117, R118, R120). -/

namespace Sys2Proof.Machine

/-! ### Descriptors that become FREE (R120) -/

theorem State.freeAll_frame (ds : List DescriptorIndex) (s : State) :
    s.freeAll ds = { s with descriptors := (s.freeAll ds).descriptors } := by
  induction ds generalizing s with
  | nil => rfl
  | cons d rest ih => exact storeChange_trans (t := s.modDescriptor d (fun _ => {})) rfl (ih _)

theorem State.freeAll_descriptor (ds : List DescriptorIndex) (s : State) (d : DescriptorIndex) :
    (s.freeAll ds).descriptor d = if d ∈ ds then {} else s.descriptor d := by
  induction ds generalizing s with
  | nil => rfl
  | cons e rest ih =>
    refine (ih _).trans ?_
    rw [State.descriptor_modDescriptor]
    by_cases hrest : d ∈ rest
    · simp [hrest]
    · by_cases he : e = d
      · simp [he]
      · simp [hrest, he, Ne.symm he]

@[simp] theorem State.freeAll_chute (s : State) (ds : List DescriptorIndex) (k : Chute) :
    (s.freeAll ds).chute k = s.chute k := by rw [State.freeAll_frame]; rfl

@[simp] theorem State.freeAll_outbound (s : State) (ds : List DescriptorIndex) : (s.freeAll ds).outbound = s.outbound := by
  rw [State.freeAll_frame]

@[simp] theorem State.freeAll_waitingTotes (s : State) (ds : List DescriptorIndex) :
    (s.freeAll ds).waitingTotes = s.waitingTotes := by rw [State.freeAll_frame]

/-! ### The tote in place (R117, R118) -/

/-- Chutes, descriptors, outbound queue and waiting tote records alone have moved. -/
def SequencesMoved (s t : State) : Prop := t = { s with
  chutes := t.chutes, descriptors := t.descriptors, outbound := t.outbound, waitingTotes := t.waitingTotes }

theorem SequencesMoved.trans {s t u : State} (h : SequencesMoved s t) (h' : SequencesMoved t u) : SequencesMoved s u := by
  unfold SequencesMoved at *
  rw [h', h]

theorem State.freeAll_sequences (s : State) (ds : List DescriptorIndex) : SequencesMoved s (s.freeAll ds) := by
  unfold SequencesMoved
  rw [State.freeAll_frame]

theorem State.closeDescriptor_sequences (s : State) (k : Chute) (d : DescriptorIndex) (cause : CloseCause) :
    SequencesMoved s (s.closeDescriptor k d cause) := by
  unfold SequencesMoved
  rw [State.closeDescriptor_eq]
  split <;> rfl

theorem State.closeDescriptor_other (s : State) (k : Chute) {d e : DescriptorIndex} (h : d ≠ e) (cause : CloseCause) :
    (s.closeDescriptor k d cause).descriptor e = s.descriptor e := by
  rw [State.closeDescriptor_eq]
  split <;> rw [State.descriptor_modDescriptor, if_neg h] <;> rfl

/-- The state once the tote in place at chute k, if there is one, has closed CLEARED. -/
def State.toteCleared (s : State) (k : Chute) : State :=
  (s.chute k).active.elim s (fun d => s.closeDescriptor k d .cleared)

section ToteCleared

variable (s : State) (k : Chute)

theorem State.toteCleared_none (h : (s.chute k).active = none) : s.toteCleared k = s := by rw [State.toteCleared, h]; rfl

theorem State.toteCleared_some {d : DescriptorIndex} (h : (s.chute k).active = some d) :
    s.toteCleared k = s.closeDescriptor k d .cleared := by rw [State.toteCleared, h]; rfl

@[simp] theorem State.toteCleared_chute (j : Chute) : (s.toteCleared k).chute j = s.chute j := by
  cases h : (s.chute k).active with
  | none => rw [s.toteCleared_none k h]
  | some d => rw [s.toteCleared_some k h, State.closeDescriptor_chute]

theorem State.toteCleared_sequences : SequencesMoved s (s.toteCleared k) := by
  cases h : (s.chute k).active with
  | none => rw [s.toteCleared_none k h]; rfl
  | some d => rw [s.toteCleared_some k h]; exact s.closeDescriptor_sequences k d .cleared

theorem State.toteCleared_descriptor {d : DescriptorIndex} (hd : (s.chute k).active ≠ some d) :
    (s.toteCleared k).descriptor d = s.descriptor d := by
  cases h : (s.chute k).active with
  | none => rw [s.toteCleared_none k h]
  | some e =>
    have hne : e ≠ d := fun he => hd (he ▸ h)
    rw [s.toteCleared_some k h, s.closeDescriptor_other k hne]

end ToteCleared

/-! ### The cleared chain (R120) -/

/-- The state with the chain of chute k cleared, before the event. -/
def State.chainCleared (s : State) (k : Chute) : State :=
  ((s.toteCleared k).freeAll ((s.chute k).pending.toList ++ (s.chute k).chain)).modChute k (fun c => { c with
    state := .unconfigured, active := none, pending := none, chain := [], pendingCause := none })

theorem State.clearChain_eq (s : State) (k : Chute) : s.clearChain k =
    if (s.chute k).state = .unconfigured then s.chainCleared k
    else (s.chainCleared k).offerEvent (.chuteEvent k .unconfigured) := by
  unfold State.clearChain State.chainCleared State.toteCleared
  dsimp only
  cases (s.chute k).active <;> rfl

section ChainCleared

variable (s : State) (k : Chute)

theorem State.chainCleared_sequences : SequencesMoved s (s.chainCleared k) :=
  ((s.toteCleared_sequences k).trans (State.freeAll_sequences _ _)).trans rfl

theorem State.chainCleared_chute (j : Chute) : (s.chainCleared k).chute j =
    if k = j then { s.chute k with
      state := .unconfigured, active := none, pending := none, chain := [], pendingCause := none }
    else s.chute j := by
  simp only [State.chainCleared, State.chute_modChute, State.freeAll_chute, State.toteCleared_chute]

theorem State.chainCleared_descriptor (d : DescriptorIndex) : (s.chainCleared k).descriptor d =
    if (s.chute k).pending = some d ∨ d ∈ (s.chute k).chain then {} else (s.toteCleared k).descriptor d := by
  simp only [State.chainCleared, State.modChute_descriptor, State.freeAll_descriptor, List.mem_append, Option.mem_toList]

theorem State.chainCleared_outbound : (s.chainCleared k).outbound = (s.toteCleared k).outbound := by
  simp only [State.chainCleared, State.modChute_outbound, State.freeAll_outbound]

theorem State.chainCleared_waitingTotes : (s.chainCleared k).waitingTotes = (s.toteCleared k).waitingTotes := by
  simp only [State.chainCleared, State.modChute_waitingTotes, State.freeAll_waitingTotes]

end ChainCleared

/-! ### The answers of CHAIN_CLEAR (R120) -/

section Answers

variable {s : State} {chute : Byte} {k : Chute} (hs : s.command = none) (hk : chute.toNat = k.val)

include hs hk

theorem exec_chainClear_refused (h : s.ordersAt k ≠ 0) (tag : Byte) :
    exec (.chainClear tag [chute]) s = .next (s.finish tag 0x0A [chute] .refusedState []) := by
  have hparse : parseChute [chute] = some k := indexOf_eq_some.mpr hk
  exact congrArg _ (runCommand_refused hs (by simp only [chainClearAct, hparse, if_neg h]) tag 0x0A)

theorem exec_chainClear_cleared (h : s.ordersAt k = 0) (tag : Byte) :
    exec (.chainClear tag [chute]) s = .next ((s.clearChain k).finish tag 0x0A [chute] .ok [chute]) := by
  have hparse : parseChute [chute] = some k := indexOf_eq_some.mpr hk
  exact congrArg _ (State.runCommand_done hs (by simp only [chainClearAct, hparse, if_pos h, byteOf_eq hk]))

end Answers

/-- Settles O33: the cleared chain is read chute by chute and descriptor by descriptor. -/
theorem chainClearFreesTheChain : Obligations.ChainClearFreesTheChain := by
  intro s tag chute k hs hk
  refine ⟨fun h => exec_chainClear_refused hs hk h tag, fun h => ⟨s.chainCleared k, s.clearChain k,
    exec_chainClear_cleared hs hk h tag, s.chainCleared_sequences k, fun j hj => ?otherChute, ?chute, fun d hd => ?freed,
    fun hnone => ?noTote, fun d hd => ⟨fun hroom => ?admitted, fun hfull hpending hchain => ?waits⟩, s.clearChain_eq k⟩⟩
  case otherChute => rw [State.chainCleared_chute, if_neg hj.symm]
  case chute => rw [State.chainCleared_chute, if_pos rfl]
  case freed => rw [State.chainCleared_descriptor, s.toteCleared_descriptor k hd]
  case noTote =>
    rw [State.chainCleared_outbound, State.chainCleared_waitingTotes, s.toteCleared_none k hnone]
    exact ⟨rfl, rfl⟩
  case admitted =>
    rw [State.chainCleared_descriptor, State.chainCleared_outbound, State.chainCleared_waitingTotes, s.toteCleared_some k hd,
      State.closeDescriptor_eq, if_pos hroom, State.descriptor_modDescriptor_self, ite_self]
    exact ⟨rfl, rfl, rfl⟩
  case waits =>
    have hnot : ¬ ((s.chute k).pending = some d ∨ d ∈ (s.chute k).chain) := not_or.mpr ⟨hpending, hchain⟩
    rw [State.chainCleared_descriptor, if_neg hnot, State.chainCleared_outbound, State.chainCleared_waitingTotes,
      s.toteCleared_some k hd, State.closeDescriptor_eq, if_neg (Nat.not_lt.mpr hfull), State.descriptor_modDescriptor_self]
    exact ⟨rfl, rfl, rfl⟩

end Sys2Proof.Machine
end

section
/-! PORT_CONFIG and the seven Go targets, each by the state of its port (R126 to R130, R139, R176). -/

namespace Sys2Proof.Machine

/-! ### PORT_CONFIG (R127) -/

theorem classOf_eq_some {b : Byte} {k : StationClass} : classOf b = some k ↔ b.toNat = k.code := by
  revert b
  cases k <;> decide

theorem parsePortConfig_eq {port cls : Byte} {p : StationPort} {k : StationClass} (hp : port.toNat = p.val)
    (hk : cls.toNat = k.code) : parsePortConfig [port, cls] = some (p, k) := by
  simp only [parsePortConfig, indexOf_eq_some.mpr hp, classOf_eq_some.mpr hk]
  rfl

/-- Settles O24: the execution by the state of the port that the parameters name. -/
theorem portConfigWritesExpectedClass : Obligations.PortConfigWritesExpectedClass := by
  intro s tag port cls p k hs hp hk
  have hparse := parsePortConfig_eq hp hk
  refine ⟨fun hstate => congrArg _ (State.runCommand_done hs ?_), fun hstate => congrArg _ (runCommand_refused hs ?_ tag 0x02)⟩
  · simp only [portConfigAct, hparse, if_pos hstate, byteOf_eq hp, byteOf_eq hk]
  · simp only [portConfigAct, hparse, if_neg hstate]

/-! ### The answers of a PORT_GO (R128, R176) -/

/-- A port that waits for no answer is steered where its compound runs. -/
theorem PortRecord.steered_eq_compound {P : PortRecord}
    (h : P.state ≠ .probing ∧ P.state ≠ .pausing ∧ P.state ≠ .resuming) : P.steered = P.compound := by
  obtain ⟨hprobing, hpausing, hresuming⟩ := h
  simp [PortRecord.steered, hprobing, hpausing, hresuming]

/-- A port whose compound runs is steered, so only one without is asked for the target's effect. -/
theorem steered_or_none {s : State} {p : StationPort} {effect : State → StationPort → Option State}
    (h : (s.port p).compound = false → effect s p = none) : (s.port p).steered = true ∨ effect s p = none := by
  by_cases hc : (s.port p).compound = false
  · exact .inr (h hc)
  · exact .inl (by simp [PortRecord.steered, hc])

section Go

variable {s t : State} {port target : Byte} {p : StationPort} {code : Nat} (hs : s.command = none) (hp : port.toNat = p.val)
  (ht : target.toNat = code)

include hp ht

theorem parseGo_eq : parseGo code [port, target] = some p := by
  simp only [parseGo, if_pos ht, indexOf_eq_some.mpr hp]

include hs

/-- A target that the port's state allows ends OK with the port, the target and the state after the first step (R176). -/
theorem runCommand_goAct_ok {effect : State → StationPort → Option State} {after : Byte} (hc : (s.port p).compound = false)
    (hfree : (s.port p).state ≠ .probing ∧ (s.port p).state ≠ .pausing ∧ (s.port p).state ≠ .resuming)
    (he : effect s p = some t) (hafter : byteOf (t.port p).state.code = after) (tag : Byte) :
    s.runCommand tag 0x03 [port, target] (goAct code [port, target] effect) =
      t.finish tag 0x03 [port, target] .ok [port, target, after] := by
  have hsteered : (s.port p).steered = false := (PortRecord.steered_eq_compound hfree).trans hc
  refine State.runCommand_done hs ?_
  simp only [goAct, parseGo_eq hp ht, hsteered, he, State.goPayload, byteOf_eq hp, byteOf_eq ht, hafter, Bool.false_eq_true,
    if_false]

/-- A target that the port's state does not allow, or that meets a steered port, is refused. -/
theorem runCommand_goAct_refusedState {effect : State → StationPort → Option State}
    (h : (s.port p).compound = false → effect s p = none) (tag : Byte) :
    s.runCommand tag 0x03 [port, target] (goAct code [port, target] effect) =
      s.finish tag 0x03 [port, target] .refusedState [] := by
  refine runCommand_refused hs ?_ tag 0x03
  simp only [goAct, parseGo_eq hp ht]
  split
  · rfl
  · next hfree => rw [(steered_or_none h).resolve_left hfree]

/-- A target takes a first step from the states allowed for it, of which none waits for an answer; what it does in the other
states is left to its further steps. -/
theorem goAct_takenOr {effect : State → StationPort → Option State} {allowed : Prop} [Decidable allowed] {after : Byte}
    {further : Option State} {otherwise : Prop}
    (he : (s.port p).compound = false → effect s p = if allowed then some t else further)
    (hfree : allowed → (s.port p).state ≠ .probing ∧ (s.port p).state ≠ .pausing ∧ (s.port p).state ≠ .resuming)
    (hafter : allowed → byteOf (t.port p).state.code = after) (tag : Byte)
    (hfurther : ((s.port p).compound = false → effect s p = further) → otherwise) :
    if (s.port p).compound = false ∧ allowed then
      Host.Outcome.next (σ := State) (φ := Fault) (ρ := Refusal)
        (s.runCommand tag 0x03 [port, target] (goAct code [port, target] effect)) =
          .next (t.finish tag 0x03 [port, target] .ok [port, target, after])
    else otherwise := by
  split
  · next h =>
    obtain ⟨hc, ha⟩ := h
    exact congrArg _ (runCommand_goAct_ok hs hp ht hc (hfree ha) ((he hc).trans (if_pos ha)) (hafter ha) tag)
  · next h => exact hfurther fun hc => (he hc).trans (if_neg fun ha => h ⟨hc, ha⟩)

/-- In the states that allow none of its first steps a target is refused. -/
theorem goAct_takenOrRefused {effect : State → StationPort → Option State} {allowed : Prop} [Decidable allowed] {after : Byte}
    (he : (s.port p).compound = false → effect s p = if allowed then some t else none)
    (hfree : allowed → (s.port p).state ≠ .probing ∧ (s.port p).state ≠ .pausing ∧ (s.port p).state ≠ .resuming)
    (hafter : allowed → byteOf (t.port p).state.code = after) (tag : Byte) :
    let ran : Host.Outcome State Fault Refusal :=
      .next (s.runCommand tag 0x03 [port, target] (goAct code [port, target] effect))
    if (s.port p).compound = false ∧ allowed then ran = .next (t.finish tag 0x03 [port, target] .ok [port, target, after])
    else ran = .next (s.finish tag 0x03 [port, target] .refusedState []) :=
  goAct_takenOr hs hp ht he hfree hafter tag fun h => congrArg _ (runCommand_goAct_refusedState hs hp ht h tag)

end Go

/-! ### First steps (R128, R130) -/

section Steps

variable (s : State) (p : StationPort)

theorem State.goListenStep_eq : s.goListenStep p =
    if (s.port p).state = .detached ∨ (s.port p).state = .fault then some (s.modPort p PortRecord.listen) else none := by
  unfold State.goListenStep
  cases (s.port p).state <;> rfl

theorem State.goProbeStep_eq : s.goProbeStep p =
    if (s.port p).state = .attached ∨ (s.port p).state = .probed then some (s.startProbe p) else none := by
  unfold State.goProbeStep
  cases (s.port p).state <;> rfl

theorem State.goReadyStep_eq : s.goReadyStep p =
    if (s.port p).state = .probed then some (s.modPort p (fun P => { P with state := .ready })) else none := by
  unfold State.goReadyStep
  cases (s.port p).state <;> rfl

theorem State.goPauseStep_eq : s.goPauseStep p = if (s.port p).state = .ready then
    some ((s.modPort p (fun P => { P with state := .pausing, timer := some 500 })).sendStation p .pause) else none := by
  unfold State.goPauseStep
  cases (s.port p).state <;> rfl

theorem State.goResumeStep_eq : s.goResumeStep p = if (s.port p).state = .paused then
    some ((s.modPort p (fun P => { P with state := .resuming, timer := some 100 })).sendStation p .resume) else none := by
  unfold State.goResumeStep
  cases (s.port p).state <;> rfl

/-- GoListenToReady goes on from where the port stands: it listens, waits for its station, or probes the attached one (R130). -/
theorem State.goCompoundStep_eq : s.goCompoundStep p =
    if (s.port p).state = .detached ∨ (s.port p).state = .fault then
      some ((s.modPort p PortRecord.listen).modPort p (fun P => { P with compound := true }))
    else if (s.port p).state = .listening then some (s.modPort p (fun P => { P with compound := true }))
    else if (s.port p).state = .attached then some ((s.modPort p (fun P => { P with
      compound := true, state := .probing, timer := some 25 })).sendStation p .probe)
    else none := by
  unfold State.goCompoundStep State.startProbe
  simp only [State.modPort_modPort]
  cases (s.port p).state <;> rfl

end Steps

/-- Settles O25: five targets have one first step, and GoListenToReady has one for each stretch of its way. -/
theorem goTargetTakesItsFirstStepOrIsRefused : Obligations.GoTargetTakesItsFirstStepOrIsRefused := by
  intro s tag port p hs hp
  refine ⟨?listen, ?probe, ?ready, ?pause, ?resume, ?listenToReady⟩
  case listen =>
    refine goAct_takenOrRefused hs hp rfl (fun _ => s.goListenStep_eq p) ?_ (fun _ => ?_) tag
    · rintro (h | h) <;> simp [h]
    · rw [State.port_modPort_self]
      rfl
  case probe =>
    refine goAct_takenOrRefused hs hp rfl (fun _ => s.goProbeStep_eq p) ?_ (fun _ => ?_) tag
    · rintro (h | h) <;> simp [h]
    · rw [State.startProbe, State.sendStation_port, State.port_modPort_self]
      rfl
  case ready =>
    refine goAct_takenOrRefused hs hp rfl (fun _ => s.goReadyStep_eq p) (fun h => by simp [h]) (fun _ => ?_) tag
    rw [State.port_modPort_self]
    rfl
  case pause =>
    refine goAct_takenOrRefused hs hp rfl (fun _ => s.goPauseStep_eq p) (fun h => by simp [h]) (fun _ => ?_) tag
    rw [State.sendStation_port, State.port_modPort_self]
    rfl
  case resume =>
    refine goAct_takenOrRefused hs hp rfl (fun _ => s.goResumeStep_eq p) (fun h => by simp [h]) (fun _ => ?_) tag
    rw [State.sendStation_port, State.port_modPort_self]
    rfl
  case listenToReady =>
    refine goAct_takenOr hs hp rfl (fun _ => s.goCompoundStep_eq p) ?_ (fun _ => ?_) tag fun h =>
      goAct_takenOr hs hp rfl h (fun hstate => by simp [hstate]) (fun hstate => ?_) tag fun h =>
        goAct_takenOrRefused hs hp rfl h (fun hstate => by simp [hstate]) (fun _ => ?_) tag
    · rintro (h | h) <;> simp [h]
    · rw [State.port_modPort_self, State.port_modPort_self]
      rfl
    · rw [State.port_modPort_self, hstate]
      rfl
    · rw [State.sendStation_port, State.port_modPort_self]
      rfl

/-! ### GoDetach (R129, R139) -/

/-- GoDetach leaves its port DETACHED, whatever events and withdrawal follow. -/
theorem State.detach_state (s : State) (p : StationPort) : ((s.detach p).port p).state = .detached := by
  unfold State.detach
  dsimp only
  split
  · assumption
  · repeat' split
    all_goals simp only [State.withdraw_port, State.portEvent_port, State.port_modPort_self]

/-- Settles O26: GoDetach is executed in every state, and its payload carries DETACHED. -/
theorem goDetachTakesAnyPortToDetached : Obligations.GoDetachTakesAnyPortToDetached := by
  intro s tag port p hs hp
  have hparse : parseGo 0 [port, 0] = some p := parseGo_eq hp rfl
  have hact : goDetachAct [port, 0] s = (s.detach p, .done .ok [port, 0, 0]) := by
    simp only [goDetachAct, hparse, State.goPayload, State.detach_state, byteOf_eq hp]
    rfl
  exact congrArg _ (State.runCommand_done hs hact)

end Sys2Proof.Machine
end

section
/-! What a station port does with the frames of its station, with its timers and with the loss of its link (R126, R130 to R139, R150, R154). -/

namespace Sys2Proof.Machine

/-! ### Frames by the state of the port (R131, R154) -/

section Frames

variable {s : State} {p : StationPort}

theorem State.stationFrame_detached (h : (s.port p).state = .detached) (taken : State) : s.stationFrame p taken = s := by
  simp only [State.stationFrame, h]

theorem State.stationFrame_listening (h : (s.port p).state = .listening) (taken : State) :
    s.stationFrame p taken = s.attach p := by
  simp only [State.stationFrame, h]

/-- A frame without an effect of its own changes nothing outside LISTENING. -/
theorem State.stationFrame_ignored {taken : State} (hl : (s.port p).state ≠ .listening) (htaken : taken = s) :
    s.stationFrame p taken = s := by
  by_cases hd : (s.port p).state = .detached
  · exact State.stationFrame_detached hd taken
  · exact (State.stationFrame_taken hd hl taken).trans htaken

theorem State.attach_compound (h : (s.port p).compound = true) : s.attach p =
    ((s.modPort p (fun P => { P with state := .attached })).portEvent p .attached).startProbe p := if_pos h

theorem State.attach_plain (h : (s.port p).compound = false) :
    s.attach p = (s.modPort p (fun P => { P with state := .attached })).portEvent p .attached :=
  if_neg (ne_true_of_eq_false h)

/-- Every station frame is first judged by the state of its port. -/
theorem exec_stationFrame {c : Instr} (h : stationOf c = some p) (s : State) :
    ∃ taken, exec c s = .next (s.stationFrame p taken) := by
  cases c <;> simp only [stationOf, Option.some.injEq, reduceCtorEq] at h
  all_goals
    subst h
    exact ⟨_, rfl⟩

theorem exec_idle_ignored (hl : (s.port p).state ≠ .listening) : exec (.idle p) s = .next s :=
  congrArg Host.Outcome.next (State.stationFrame_ignored hl rfl)

theorem exec_announce_ignored (hl : (s.port p).state ≠ .listening) (h : (s.port p).state ≠ .probing) (cls cap : Byte) :
    exec (.announce p cls cap) s = .next s :=
  congrArg Host.Outcome.next (State.stationFrame_ignored hl (if_neg h))

theorem exec_pauseAck_ignored (hl : (s.port p).state ≠ .listening) (h : (s.port p).state ≠ .pausing) :
    exec (.pauseAck p) s = .next s :=
  congrArg Host.Outcome.next (State.stationFrame_ignored hl (if_neg h))

theorem exec_resumeAck_ignored (hl : (s.port p).state ≠ .listening) (h : (s.port p).state ≠ .resuming) :
    exec (.resumeAck p) s = .next s :=
  congrArg Host.Outcome.next (State.stationFrame_ignored hl (if_neg h))

end Frames

/-- Settles O27: DETACHED and LISTENING judge every frame alike, and each answer asks for the state that awaits it. -/
theorem stationFrameIsTakenByPortState : Obligations.StationFrameIsTakenByPortState := by
  intro c s p hc
  obtain ⟨taken, hexec⟩ := exec_stationFrame hc s
  refine ⟨fun hd => ?detached, fun hl hplain => ?attaches, fun hl hcompound => ?probes, fun hl hidle => ?idle,
    fun hl hn cls cap hann => ?announce, fun hl hn hack => ?pauseAck, fun hl hn hack => ?resumeAck⟩
  case detached => rw [hexec, State.stationFrame_detached hd]
  case attaches =>
    rw [hexec, State.stationFrame_listening hl, State.attach_plain hplain]
    rfl
  case probes =>
    rw [hexec, State.stationFrame_listening hl, State.attach_compound hcompound]
    rfl
  case idle => rw [hidle, exec_idle_ignored hl]
  case announce => rw [hann, exec_announce_ignored hl hn]
  case pauseAck => rw [hack, exec_pauseAck_ignored hl hn]
  case resumeAck => rw [hack, exec_resumeAck_ignored hl hn]

/-! ### Awaited answers and timers (R126, R132 to R136) -/

theorem announcedCapability_extended : announcedCapability 1 = .extended := rfl

theorem announcedCapability_basic {cap : Byte} (h : cap ≠ 1) : announcedCapability cap = .basic := if_neg h

theorem PortRecord.ranOut_iff {P : PortRecord} {st : PortState} : P.ranOut st = true ↔ P.state = st ∧ P.timer = some 0 := by
  simp [PortRecord.ranOut]

/-- A timer with time left, or of another state, has not run out. -/
theorem not_ranOut {P : PortRecord} {st : PortState} (h : P.timer ≠ some 0 ∨ P.state ≠ st) : ¬ P.ranOut st = true :=
  fun hr => by
    obtain ⟨hstate, htimer⟩ := PortRecord.ranOut_iff.mp hr
    exact h.elim (fun hn => hn htimer) (fun hn => hn hstate)

section Answers

variable {s : State} {p : StationPort}

/-- A state that awaits an answer is neither DETACHED nor LISTENING, so the answer is taken. -/
theorem State.stationFrame_awaited {st : PortState} (h : (s.port p).state = st) (hd : st ≠ .detached) (hl : st ≠ .listening)
    (taken : State) : s.stationFrame p taken = taken :=
  State.stationFrame_taken (h ▸ hd) (h ▸ hl) taken

/-- An ANNOUNCE of the expected class ends the probe with the capability announced (R132). -/
theorem exec_announce_expected {cls : Byte} (h : (s.port p).state = .probing) (hk : cls.toNat = (s.port p).expectedClass.code)
    (cap : Byte) : exec (.announce p cls cap) s =
      .next (s.endProbe p (s.port p).expectedClass (announcedCapability cap) false) := by
  refine congrArg Host.Outcome.next ((State.stationFrame_awaited h PortState.noConfusion PortState.noConfusion _).trans ?_)
  rw [State.takeAnnounce, if_pos h, if_pos (classOf_eq_some.mpr hk)]

/-- An ANNOUNCE of any other class, or of none, is a class mismatch (R132, R138). -/
theorem exec_announce_mismatch {cls : Byte} (h : (s.port p).state = .probing) (hk : cls.toNat ≠ (s.port p).expectedClass.code)
    (cap : Byte) : exec (.announce p cls cap) s = .next (s.enterFault p .classMismatch (.faultMismatch cls)) := by
  refine congrArg Host.Outcome.next ((State.stationFrame_awaited h PortState.noConfusion PortState.noConfusion _).trans ?_)
  rw [State.takeAnnounce, if_pos h, if_neg (mt classOf_eq_some.mp hk)]

theorem exec_pauseAck_pausing (h : (s.port p).state = .pausing) : exec (.pauseAck p) s = .next (s.endPause p .paused) :=
  congrArg Host.Outcome.next
    ((State.stationFrame_awaited h PortState.noConfusion PortState.noConfusion _).trans (if_pos h))

theorem exec_resumeAck_resuming (h : (s.port p).state = .resuming) : exec (.resumeAck p) s =
    .next ((s.modPort p (fun P => { P with state := .ready, timer := none })).portEvent p .resumed) :=
  congrArg Host.Outcome.next
    ((State.stationFrame_awaited h PortState.noConfusion PortState.noConfusion _).trans (if_pos h))

end Answers

/-- The end of a probe is PROBED alone, or goes on to READY for a pending compound (R130). -/
theorem State.endProbe_eq (s : State) (p : StationPort) (k : StationClass) (c : Capability) (defaulted : Bool) :
    s.endProbe p k c defaulted =
      let s1 := (s.modPort p (fun P => { P with
        state := .probed, timer := none, detectedClass := k, capability := c })).offerEvent
          (.portEvent p (.probed k c defaulted))
      if (s.port p).compound = true then
        (s1.modPort p (fun P => { P with state := .ready, compound := false })).offerEvent (.portEvent p .ready)
      else s1 := rfl

/-- Settles O29: each answer in the state that awaits it, each timer where it has run out, and each timer elsewhere. -/
theorem stationAnswersAndTimeouts : Obligations.StationAnswersAndTimeouts := by
  refine ⟨fun s p cls cap hprobing => ⟨fun hk hcap => ?extended, fun hk hcap => ?basic,
      fun hk => exec_announce_mismatch hprobing hk cap, fun htimer => ?window⟩,
    fun s p => ⟨fun hpausing => ⟨exec_pauseAck_pausing hpausing, fun htimer => ?forced⟩,
      fun hresuming => ⟨exec_resumeAck_resuming hresuming, fun htimer => ?noResume⟩⟩,
    fun s p => ⟨fun h => ?windowOpen, fun h => ?pauseRuns, fun h => ?resumeRuns⟩⟩
  case extended =>
    rw [exec_announce_expected hprobing hk, hcap, announcedCapability_extended, State.endProbe_eq]
  case basic =>
    rw [exec_announce_expected hprobing hk, announcedCapability_basic hcap, State.endProbe_eq]
  case window => exact congrArg Host.Outcome.next (if_pos (PortRecord.ranOut_iff.mpr ⟨hprobing, htimer⟩))
  case forced => exact congrArg Host.Outcome.next (if_pos (PortRecord.ranOut_iff.mpr ⟨hpausing, htimer⟩))
  case noResume => exact congrArg Host.Outcome.next (if_pos (PortRecord.ranOut_iff.mpr ⟨hresuming, htimer⟩))
  case windowOpen => exact congrArg Host.Outcome.next (if_neg (not_ranOut h))
  case pauseRuns => exact congrArg Host.Outcome.next (if_neg (not_ranOut h))
  case resumeRuns => exact congrArg Host.Outcome.next (if_neg (not_ranOut h))

/-! ### Loss of carrier (R137, R139, R150, R152) -/

section Loss

variable {s : State} {p : StationPort}

/-- A lost port's fall back to LISTENING, its compound cancelled with its event (R137). -/
def State.fallBack (s : State) (p : StationPort) : State :=
  let lost := (s.modPort p (fun P => { P with
    state := .listening, timer := none, hold := false, compound := false })).offerEvent (.portEvent p .lost)
  if (s.port p).compound = true then lost.offerEvent (.portEvent p .compoundCancelled) else lost

theorem State.losePortLink_kept
    (h : (s.port p).state = .detached ∨ (s.port p).state = .listening ∨ (s.port p).state = .fault) :
    s.losePortLink p = s := by
  rcases h with h | h | h <;> simp only [State.losePortLink, h]

/-- A lost port that was READY or PAUSING is withdrawn from the contexts that expect it (R139). -/
theorem State.losePortLink_withdrawn (h : (s.port p).state = .ready ∨ (s.port p).state = .pausing) :
    s.losePortLink p = (s.fallBack p).withdraw p := by
  rcases h with h | h <;> simp only [State.losePortLink, h] <;> rfl

theorem State.losePortLink_fallBack (h : (s.port p).state = .attached ∨ (s.port p).state = .probing ∨
    (s.port p).state = .probed ∨ (s.port p).state = .paused ∨ (s.port p).state = .resuming) :
    s.losePortLink p = s.fallBack p := by
  rcases h with h | h | h | h | h <;> simp only [State.losePortLink, h] <;> rfl

end Loss

/-- Settles O52: the link and its waiting frames go first, then the port falls back by its state. -/
theorem lostStationFallsBackToListening : Obligations.LostStationFallsBackToListening := by
  intro s p P s1 lost cancelled
  have hexec : exec (.linkDown (.station p)) s = .next (s1.losePortLink p) := rfl
  rw [hexec]
  exact ⟨fun h => congrArg _ (State.losePortLink_kept (s := s1) h),
    fun h => congrArg _ (State.losePortLink_withdrawn (s := s1) h),
    fun h => congrArg _ (State.losePortLink_fallBack (s := s1) h)⟩

end Sys2Proof.Machine
end

section
/-! The kinds of R146, and the cause that each of the five tests gives a received frame (R131, R145, R150). -/

namespace Sys2Proof.Machine

/-! ### Kinds, codes and lengths (R146) -/

theorem inboundKinds : InboundKinds where
  line := rfl
  station _ := rfl
  sorter := rfl
  lengths k n := by cases k <;> simp [InboundKind.allows, InboundKind.code]

theorem kindOf_eq_none {port : Port} {code : Byte} (h : ∀ k ∈ port.receives, k.code ≠ code) : port.kindOf code = none :=
  List.find?_eq_none.mpr fun k hk hcode => h k hk (beq_iff_eq.mp hcode)

/-- A code that a port receives names its kind, since no two kinds of a port share a code. -/
theorem kindOf_eq_some {port : Port} {k : InboundKind} {code : Byte} (hk : k ∈ port.receives) (hcode : k.code = code) :
    port.kindOf code = some k := by
  have hfinds : ∀ j ∈ port.receives, port.kindOf j.code = some j := by
    cases port <;> simp only [Port.kindOf, Port.receives] <;> decide
  rw [← hcode]
  exact hfinds k hk

/-! ### The five tests in their order (R145) -/

section Tests

variable {port : Port} {bytes : List Byte}

theorem frameVerdict_size (h : bytes.length < 6 ∨ 66 < bytes.length) : frameVerdict port bytes = some (.length, 0) :=
  if_pos (by simpa using h)

variable (hmin : 6 ≤ bytes.length) (hmax : bytes.length ≤ 66)

include hmin hmax

theorem size_passes : ¬ (bytes.length < 6 || 66 < bytes.length) = true := by
  simp [Nat.not_lt.mpr hmin, hmax]

theorem frameVerdict_check (h : ¬ frameCheck bytes = crc16 (frameBody bytes)) :
    frameVerdict port bytes = some (.check, byteAt bytes 0) := by
  simp only [frameVerdict, if_neg (size_passes hmin hmax), if_pos (bne_iff_ne.mpr h)]

variable (hsound : frameCheck bytes = crc16 (frameBody bytes))

include hsound

theorem frameVerdict_length (h : 60 < (byteAt bytes 1).toNat ∨ (byteAt bytes 1).toNat + 6 ≠ bytes.length) :
    frameVerdict port bytes = some (.length, byteAt bytes 0) := by
  have hlen : (60 < (byteAt bytes 1).toNat || (byteAt bytes 1).toNat != bytes.length - 6) = true := by simp; omega
  simp only [frameVerdict, if_neg (size_passes hmin hmax), hsound, bne_self_eq_false, Bool.false_eq_true, if_false, if_pos hlen]

/-- A frame that passes the first three tests is judged by its kind: one that the port receives, and a length it allows. -/
theorem frameVerdict_kind (hmaxLen : (byteAt bytes 1).toNat ≤ 60) (hn : (byteAt bytes 1).toNat + 6 = bytes.length) :
    frameVerdict port bytes = (port.kindOf (byteAt bytes 0)).elim (some (.kind, byteAt bytes 0))
      (fun k => if k.allows (byteAt bytes 1).toNat = true then none else some (.length, byteAt bytes 0)) := by
  have hfits : ¬ (60 < (byteAt bytes 1).toNat || (byteAt bytes 1).toNat != bytes.length - 6) = true := by
    simp [Nat.not_lt.mpr hmaxLen]
    omega
  simp only [frameVerdict, if_neg (size_passes hmin hmax), hsound, bne_self_eq_false, Bool.false_eq_true, if_false, if_neg hfits]
  cases port.kindOf (byteAt bytes 0) <;> rfl

end Tests

/-! ### Rejections (R131, R145, R150) -/

theorem State.checksFrames_iff (s : State) (port : Port) : s.checksFrames port = true ↔
    (∀ p, port = .station p → (s.port p).state ≠ .detached) ∧ (port = .sorter → s.sorterLink = .up) := by
  cases port <;> simp [State.checksFrames]

/-- A port that checks no frames takes no notice of one. -/
theorem exec_frameRejected_unchecked {s : State} {port : Port} (h : ¬ s.checksFrames port = true) (bytes : List Byte) :
    exec (.frameRejected port bytes) s = .next s := by
  simp only [exec, execFrameRejected, if_neg h]
  split <;> rfl

theorem exec_frameRejected_rejects {s : State} {port : Port} {bytes : List Byte} {cause : RejectCause} {code : Byte}
    (h : s.checksFrames port = true) (hv : frameVerdict port bytes = some (cause, code)) :
    exec (.frameRejected port bytes) s = .next (s.offerEvent (.frameRejected port cause code)) := by
  simp only [exec, execFrameRejected, hv, if_pos h]

/-- Settles O49: the cause is the verdict of the five tests, where the port checks its frames. -/
theorem rejectedFrameOffersItsCause : Obligations.RejectedFrameOffersItsCause := by
  refine ⟨inboundKinds, fun s port bytes => ⟨fun hidle => ?unchecked, fun hstation hsorter => ?checked⟩⟩
  case unchecked =>
    refine exec_frameRejected_unchecked (fun hchecks => ?_) bytes
    obtain ⟨hstation, hsorter⟩ := (s.checksFrames_iff port).mp hchecks
    rcases hidle with ⟨p, hp, hdetached⟩ | ⟨hp, hdown⟩
    · exact hstation p hp hdetached
    · exact LinkState.noConfusion (hdown.symm.trans (hsorter hp))
  case checked =>
    have hchecks := (s.checksFrames_iff port).mpr ⟨hstation, hsorter⟩
    refine ⟨fun hsize => exec_frameRejected_rejects hchecks (frameVerdict_size hsize),
      fun hmin hmax => ⟨fun hcheck => exec_frameRejected_rejects hchecks (frameVerdict_check hmin hmax hcheck),
        fun hsound => ⟨fun hlen => exec_frameRejected_rejects hchecks (frameVerdict_length hmin hmax hsound hlen),
          fun hlen hn => ?shaped⟩⟩⟩
    case shaped =>
      have hverdict := frameVerdict_kind (port := port) hmin hmax hsound hlen hn
      refine ⟨fun hother => exec_frameRejected_rejects hchecks (hverdict.trans ?_),
        fun k hk hcode hlength => exec_frameRejected_rejects hchecks (hverdict.trans ?_)⟩
      · have hkind : port.kindOf (byteAt bytes 0) = none := kindOf_eq_none hother
        rw [hkind]
        rfl
      · have hkind : port.kindOf (byteAt bytes 0) = some k := kindOf_eq_some hk hcode
        rw [hkind]
        exact if_neg (ne_true_of_eq_false hlength)

end Sys2Proof.Machine
end

section
/-! A leave of the outbound queue, and the frame that each of its entries is sent as (R143, R144, R147 to R149, R153, R162 to
R164). -/

namespace Sys2Proof.Machine

/-! ### Which waiting record is admitted first (R164) -/

theorem State.nextTote_eq_none {s : State} (h : s.waitingTotes = []) : s.nextTote = none := by
  rw [State.nextTote, h, List.findSome?_eq_none_iff]
  exact fun _ _ => rfl

/-- The tote record admitted first is the first of the lowest chute that has one. -/
theorem State.nextTote_eq_some {s : State} {pre post : List WaitingTote} {w : WaitingTote}
    (hs : s.waitingTotes = pre ++ w :: post) (hpre : ∀ x ∈ pre, w.record.chute < x.record.chute)
    (hpost : ∀ x ∈ post, w.record.chute ≤ x.record.chute) : s.nextTote = some w := by
  have hfirst : s.waitingTotes.find? (fun x => x.record.chute = w.record.chute) = some w := by
    rw [List.find?_eq_some_iff_append]
    refine ⟨decide_eq_true rfl, pre, post, hs, fun x hx => ?_⟩
    exact (Bool.not_eq_true' _).mpr (decide_eq_false (Fin.ne_of_gt (hpre x hx)))
  have hlower : ∀ k < w.record.chute, s.waitingTotes.find? (fun x => x.record.chute = k) = none := by
    intro k hk
    rw [List.find?_eq_none, hs]
    intro x hx
    have hle : w.record.chute ≤ x.record.chute := by
      rcases List.mem_append.mp hx with hx | hx
      · exact Fin.le_of_lt (hpre x hx)
      · rcases List.mem_cons.mp hx with rfl | hx
        · exact Fin.le_refl _
        · exact hpost x hx
    exact fun h => Fin.ne_of_gt (Fin.lt_of_lt_of_le hk hle) (of_decide_eq_true h)
  obtain ⟨before, after, hsplit⟩ := List.append_of_mem (List.mem_finRange w.record.chute)
  have hbefore : ∀ k ∈ before, k < w.record.chute := by
    have hsorted := List.pairwise_lt_finRange 32
    rw [hsplit] at hsorted
    exact fun k hk => (List.pairwise_append.mp hsorted).2.2 k hk _ List.mem_cons_self
  exact List.findSome?_eq_some_iff.mpr ⟨before, _, after, hsplit, hfirst, fun k hk => hlower k (hbefore k hk)⟩

/-- One of a list whose stamp is older than every other's is the oldest. -/
theorem State.oldestOf_eq_some {s : State} {i : ContextIndex} : ∀ {is : List ContextIndex}, i ∈ is →
    (∀ j ∈ is, j ≠ i → s.stampAge j < s.stampAge i) → s.oldestOf is = some i
  | j :: rest, hmem, holder => by
    have hrest : i ∈ rest → s.oldestOf rest = some i :=
      fun h => State.oldestOf_eq_some h fun k hk => holder k (List.mem_cons_of_mem _ hk)
    by_cases hj : j = i
    · subst hj
      cases h : s.oldestOf rest with
      | none => simp only [State.oldestOf, h]
      | some k =>
        have hle : s.stampAge k ≤ s.stampAge j := by
          by_cases hk : k = j
          · exact Nat.le_of_eq (congrArg s.stampAge hk)
          · exact Nat.le_of_lt (holder k (List.mem_cons_of_mem _ (s.oldestOf_mem h)) hk)
        simp only [State.oldestOf, h, if_pos hle]
    · have hlt := holder j List.mem_cons_self hj
      have hi : i ∈ rest := (List.mem_cons.mp hmem).resolve_left (Ne.symm hj)
      simp only [State.oldestOf, hrest hi, if_neg (Nat.not_le.mpr hlt)]

theorem State.nextItem_eq_none {s : State} (h : ∀ i, (s.context i).state ≠ .reporting) : s.nextItem = none := by
  have hnone : allContexts.filter (fun i => (s.context i).state = .reporting) = [] :=
    List.filter_eq_nil_iff.mpr fun i _ hi => h i (of_decide_eq_true hi)
  rw [State.nextItem, hnone]
  rfl

theorem State.nextItem_eq_some {s : State} {i : ContextIndex} (hi : (s.context i).state = .reporting)
    (holder : ∀ j, j ≠ i → (s.context j).state = .reporting → s.stampAge j < s.stampAge i) : s.nextItem = some i :=
  State.oldestOf_eq_some (List.mem_filter.mpr ⟨List.mem_finRange i, decide_eq_true hi⟩)
    fun j hj hne => holder j hne (of_decide_eq_true (List.mem_filter.mp hj).2)

/-! ### The leave of the head entry (R153, R164) -/

/-- The queue after its head entry has left, before a waiting record enters (R153). -/
def State.headLeft (s : State) (rest : List OutFrame) : State := { s with outbound := rest, lineFinishing := none }

section Leave

variable {s : State} {f : OutFrame} {rest : List OutFrame} (hup : s.lineLink = .up) (hs : s.outbound = f :: rest)

include hup hs

theorem exec_entrySent : exec .entrySent s = .next (s.headLeft rest).admitWaiting := by
  simp only [exec, execEntrySent, hup, hs, State.headLeft]

theorem exec_entrySent_result {tag code : Byte} {params : List Byte} {r : MgmtResult}
    (hc : s.command = some { tag := tag, code := code, params := params, phase := .result r }) :
    exec .entrySent s = .next { s with outbound := rest ++ [.mgmt r], lineFinishing := none, command := none } := by
  have hr : (s.headLeft rest).waitingResult = some r := by
    show s.waitingResult = some r
    simp only [State.waitingResult, hc]
  rw [exec_entrySent hup hs, State.admitWaiting, hr]
  rfl

variable (hr : s.waitingResult = none)

include hr

theorem exec_entrySent_tote {pre post : List WaitingTote} {w : WaitingTote} (hw : s.waitingTotes = pre ++ w :: post)
    (hpre : ∀ x ∈ pre, w.record.chute < x.record.chute) (hpost : ∀ x ∈ post, w.record.chute ≤ x.record.chute) :
    exec .entrySent s = .next (State.modDescriptor { s with
      outbound := rest ++ [.tote w.record], lineFinishing := none, waitingTotes := pre ++ post } w.descriptor (fun _ => {})) := by
  have hr' : (s.headLeft rest).waitingResult = none := hr
  have hnext : (s.headLeft rest).nextTote = some w := State.nextTote_eq_some hw hpre hpost
  have hleaves : (s.headLeft rest).waitingTotes.erase w = pre ++ post := by
    have hnew : w ∉ pre := fun h => Fin.lt_irrefl _ (hpre w h)
    show s.waitingTotes.erase w = pre ++ post
    rw [hw, List.erase_append_right _ hnew, List.erase_cons_head]
  rw [exec_entrySent hup hs, State.admitWaiting, hr', hnext]
  simp only [hleaves]
  rfl

theorem exec_entrySent_item {i : ContextIndex} (hw : s.waitingTotes = []) (hi : (s.context i).state = .reporting)
    (holder : ∀ j, j ≠ i → (s.context j).state = .reporting → s.stampAge j < s.stampAge i) :
    exec .entrySent s = .next (State.modContext { s with
      outbound := rest ++ [.item (s.context i).itemResult], lineFinishing := none } i (fun _ => {})) := by
  have hr' : (s.headLeft rest).waitingResult = none := hr
  have htote : (s.headLeft rest).nextTote = none := State.nextTote_eq_none hw
  have hitem : (s.headLeft rest).nextItem = some i := State.nextItem_eq_some hi holder
  rw [exec_entrySent hup hs, State.admitWaiting, hr', htote, hitem]
  rfl

theorem exec_entrySent_nothing (hw : s.waitingTotes = []) (hi : ∀ i, (s.context i).state ≠ .reporting) :
    exec .entrySent s = .next { s with outbound := rest, lineFinishing := none } := by
  have hr' : (s.headLeft rest).waitingResult = none := hr
  have htote : (s.headLeft rest).nextTote = none := State.nextTote_eq_none hw
  have hitem : (s.headLeft rest).nextItem = none := State.nextItem_eq_none hi
  rw [exec_entrySent hup hs, State.admitWaiting, hr', htote, hitem]
  rfl

end Leave

/-! ### Whole frames (R143, R144) -/

/-- Two bytes of a 16-bit number give it back (R147). -/
theorem append_bytes2 (x : BitVec 16) : byteOf (x.toNat / 256) ++ byteOf x.toNat = x := by
  rw [← be16]
  apply BitVec.eq_of_toNat_eq
  have hx := x.isLt
  simp only [be16_toNat, byteOf, BitVec.toNat_ofNat]
  omega

/-- Four bytes as a number, most significant first (R147). -/
theorem be32_toNat (b3 b2 b1 b0 : Byte) :
    (be32 b3 b2 b1 b0).toNat = (b3.toNat * 256 + b2.toNat) * 65536 + (b1.toNat * 256 + b0.toNat) := by
  unfold be32
  rw [BitVec.toNat_append, ← Nat.shiftLeft_add_eq_or_of_lt (be16 b1 b0).isLt, Nat.shiftLeft_eq, be16_toNat, be16_toNat]

/-- Four bytes of a 32-bit number give it back (R147). -/
theorem append_bytes4 (x : BitVec 32) : byteOf (x.toNat / 65536 / 256) ++ byteOf (x.toNat / 65536) ++
    byteOf (x.toNat / 256) ++ byteOf x.toNat = x := by
  rw [← be32_eq_append]
  apply BitVec.eq_of_toNat_eq
  have hx := x.isLt
  simp only [be32_toNat, byteOf, BitVec.toNat_ofNat]
  omega

/-- The bytes of a frame are those of its kind, tray and payload, with their check. -/
theorem frameBytes_isFrame (kind : Byte) (tray : Tray) (payload : List Byte) :
    IsFrame (frameBytes kind tray payload) kind tray payload :=
  ⟨_, _, rfl, append_bytes2 _⟩

/-! ### The places of an ITEM_RESULT (R147) -/

section Places

variable {pl : List Byte} {i n : Nat}

/-- The place that a number was written to holds its low byte. -/
theorem numAt_eq_mod (h : pl.getD i 0 = byteOf n) : numAt pl i = n % 256 := by
  rw [numAt, h, byteOf, BitVec.toNat_ofNat]

theorem numAt_byteOf (h : pl.getD i 0 = byteOf n) (hn : n < 256) : numAt pl i = n :=
  (numAt_eq_mod h).trans (Nat.mod_eq_of_lt hn)

/-- Bits of a place that a number below 256 was written to are bits of the number. -/
theorem bitsAt_byteOf (h : pl.getD i 0 = byteOf n) (hn : n < 256) (hi lo : Nat) :
    bitsAt pl i hi lo = n / 2 ^ lo % 2 ^ (hi + 1 - lo) := by
  rw [bitsAt, numAt_byteOf h hn]

/-- Two places that a number below 65536 was written to give it back. -/
theorem wordAt_bytes2 (hhi : pl.getD i 0 = byteOf (n / 256)) (hlo : pl.getD (i + 1) 0 = byteOf n) (hn : n < 65536) :
    wordAt pl i = n := by
  rw [wordAt, numAt_eq_mod hhi, numAt_eq_mod hlo]
  omega

end Places

/-! ### The bytes of an ITEM_RESULT (R147) -/

theorem gradeCode_lt (g : Option Grade) : gradeCode g < 8 := by
  cases g with
  | none => decide
  | some g => cases g <;> decide

theorem windowCode_lt (w : Option (Fin 8)) : windowCode w < 16 := by
  cases w with
  | none => decide
  | some i => exact Nat.lt_trans i.isLt (by decide)

theorem Spread.code_lt (x : Spread) : x.code < 2 := by cases x <;> decide

theorem DispositionClass.code_lt (x : DispositionClass) : x.code < 8 := by cases x <;> decide

section Appended

variable {xs ys : List Byte} {i : Nat}

theorem getD_append_of_lt (h : i < xs.length) : (xs ++ ys).getD i 0 = xs.getD i 0 := by
  rw [List.getD_eq_getElem?_getD, List.getElem?_append_left h, ← List.getD_eq_getElem?_getD]

theorem getD_append_of_le (h : xs.length ≤ i) : (xs ++ ys).getD i 0 = ys.getD (i - xs.length) 0 := by
  rw [List.getD_eq_getElem?_getD, List.getElem?_append_right h, ← List.getD_eq_getElem?_getD]

end Appended

theorem resultEntry_length (e : Fin 128 × Nat) : (resultEntry e).length = 3 := rfl

theorem flatMap_resultEntry_length (l : List (Fin 128 × Nat)) : (l.flatMap resultEntry).length = 3 * l.length := by
  induction l with
  | nil => rfl
  | cons e es ih =>
    rw [List.flatMap_cons, List.length_append, ih, resultEntry_length, List.length_cons]
    omega

/-- The list of a result holds each entry in three places, one entry after the other. -/
theorem getD_flatMap_resultEntry {l : List (Fin 128 × Nat)} {n j : Nat} (hn : n < l.length) (hj : j < 3) :
    (l.flatMap resultEntry).getD (3 * n + j) 0 = (resultEntry l[n]).getD j 0 := by
  induction l generalizing n with
  | nil => exact absurd hn (Nat.not_lt_zero n)
  | cons e es ih =>
    rw [List.flatMap_cons]
    cases n with
    | zero =>
      rw [getD_append_of_lt (by rw [resultEntry_length]; omega), Nat.mul_zero, Nat.zero_add, List.getElem_cons_zero]
    | succ n =>
      rw [getD_append_of_le (by rw [resultEntry_length]; omega), List.getElem_cons_succ,
        ← ih (Nat.lt_of_succ_lt_succ hn), resultEntry_length]
      congr 1
      omega

namespace ItemResult

/-- The target whose bits an ITEM_RESULT sends: that of the item, or the one of zeros. -/
def sentTarget (r : ItemResult) : ChosenTarget :=
  r.target.getD { target := { cls := .restock, first := 0, width := 1, spread := .size }, window := some 0 }

/-- The delivery that an ITEM_RESULT sends: that of the item, or the one of zeros. -/
def sentDelivery (r : ItemResult) : Delivery := r.delivery.getD { chute := 0, toteId := 0 }

/-- The outcome bits that an ITEM_RESULT sends. -/
def outcomeCode (r : ItemResult) : Nat := r.outcome.elim 0 ItemOutcome.code

/-- Bytes 4 to 11 of an ITEM_RESULT as numbers: category and outcome, key, reason and laps, tier to spread, class and
window, run of chutes, flags and causes, further flags and count (R147). -/
def packed (r : ItemResult) : List Nat := [
  r.category.val * 4 + r.outcomeCode,
  r.season.val * 16 + r.size.val,
  r.reason.val * 16 + r.laps,
  r.tier.val * 32 + gradeCode r.grade * 4 + r.sentTarget.target.spread.code * 2,
  r.sentTarget.target.cls.code * 32 + windowCode r.sentTarget.window * 2,
  r.sentTarget.target.first.val * 8 + (r.sentTarget.target.width - 1),
  r.late.toNat * 128 + r.overflow.toNat * 64 + r.exceptionRoute.toNat * 32 + r.causes.resultBits,
  r.ageUnknown.toNat * 128 + r.weightUnchecked.toNat * 64 + r.observations.length]

/-- The 24 bytes of an ITEM_RESULT before its list (R147). -/
def head (r : ItemResult) : List Byte :=
  bytes4 r.orderRef.toNat ++ r.packed.map byteOf ++ byteOf r.sentDelivery.chute.val :: bytes2 r.sentDelivery.toteId.toNat ++
    bytes2 r.score.weight ++ bytes2 r.score.age ++
    [byteOf r.score.tag, signedByte r.score.reason, byteOf (r.score.defect / 16),
      byteOf (r.score.defect % 16 * 16 + r.score.total / 256), byteOf r.score.total]

theorem payload_eq (r : ItemResult) : r.payload = r.head ++ r.observations.flatMap resultEntry := by
  cases h : r.outcome <;> simp only [ItemResult.payload, head, packed, outcomeCode, h] <;> rfl

theorem head_length (r : ItemResult) : r.head.length = 24 := rfl

theorem payload_head (r : ItemResult) {i : Nat} (hi : i < 24) : r.payload.getD i 0 = r.head.getD i 0 := by
  rw [payload_eq, getD_append_of_lt (by rwa [head_length])]

theorem payload_list (r : ItemResult) {n j : Nat} (hn : n < r.observations.length) (hj : j < 3) :
    r.payload.getD (24 + 3 * n + j) 0 = (resultEntry r.observations[n]).getD j 0 := by
  rw [payload_eq, getD_append_of_le (by rw [head_length]; omega), head_length,
    ← getD_flatMap_resultEntry hn hj]
  congr 1
  omega

theorem payload_length (r : ItemResult) : r.payload.length = 24 + 3 * r.observations.length := by
  rw [payload_eq, List.length_append, head_length, flatMap_resultEntry_length]

section Packed

variable (r : ItemResult) {n m : Nat} (hm : r.packed[n]? = some m) (hlt : m < 256)

include hm hlt

theorem numAt_packed : numAt r.payload (4 + n) = m := by
  have hn : n < 8 := (List.getElem?_eq_some_iff.mp hm).1
  refine numAt_byteOf ?_ hlt
  rw [payload_head r (by omega)]
  simp only [head, List.append_assoc, List.getD_eq_getElem?_getD]
  rw [List.getElem?_append_right (show 4 ≤ 4 + n by omega), List.getElem?_append_left (show 4 + n - 4 < 8 by omega)]
  show (r.packed.map byteOf)[4 + n - 4]?.getD 0 = byteOf m
  rw [Nat.add_sub_cancel_left, List.getElem?_map, hm]
  rfl

/-- Bits of a packed byte are bits of its number. -/
theorem bitsAt_packed (hi lo : Nat) : bitsAt r.payload (4 + n) hi lo = m / 2 ^ lo % 2 ^ (hi + 1 - lo) := by
  rw [bitsAt, r.numAt_packed hm hlt]

end Packed

theorem outcomeCode_lt (r : ItemResult) : r.outcomeCode < 4 := by
  rw [outcomeCode]
  rcases r.outcome with _ | o
  · decide
  · cases o <;> decide

theorem sentTarget_width {r : ItemResult} (h : ItemRanges r) :
    1 ≤ r.sentTarget.target.width ∧ r.sentTarget.target.width ≤ 8 := by
  rw [sentTarget]
  cases hct : r.target with
  | none => decide
  | some ct => exact h.width ct hct

section Bytes

variable (r : ItemResult)

theorem payload_category_outcome : bitsAt r.payload 4 7 2 = r.category.val ∧ bitsAt r.payload 4 1 0 = r.outcomeCode := by
  have := r.outcomeCode_lt
  have hbits := r.bitsAt_packed (n := 0) rfl (by omega)
  exact ⟨(hbits 7 2).trans (by omega), (hbits 1 0).trans (by omega)⟩

theorem payload_key : bitsAt r.payload 5 7 4 = r.season.val ∧ bitsAt r.payload 5 3 0 = r.size.val := by
  have hbits := r.bitsAt_packed (n := 1) rfl (by omega)
  exact ⟨(hbits 7 4).trans (by omega), (hbits 3 0).trans (by omega)⟩

theorem payload_reason_laps (hlaps : r.laps ≤ 15) :
    bitsAt r.payload 6 7 4 = r.reason.val ∧ bitsAt r.payload 6 3 0 = r.laps := by
  have hbits := r.bitsAt_packed (n := 2) rfl (by omega)
  exact ⟨(hbits 7 4).trans (by omega), (hbits 3 0).trans (by omega)⟩

theorem payload_tier_grade_spread : bitsAt r.payload 7 7 5 = r.tier.val ∧ bitsAt r.payload 7 4 2 = gradeCode r.grade ∧
    bitsAt r.payload 7 1 1 = r.sentTarget.target.spread.code ∧ bitsAt r.payload 7 0 0 = 0 := by
  have := gradeCode_lt r.grade
  have := r.sentTarget.target.spread.code_lt
  have hbits := r.bitsAt_packed (n := 3) rfl (by omega)
  exact ⟨(hbits 7 5).trans (by omega), (hbits 4 2).trans (by omega), (hbits 1 1).trans (by omega),
    (hbits 0 0).trans (by omega)⟩

theorem payload_class_window : bitsAt r.payload 8 7 5 = r.sentTarget.target.cls.code ∧
    bitsAt r.payload 8 4 1 = windowCode r.sentTarget.window ∧ bitsAt r.payload 8 0 0 = 0 := by
  have := r.sentTarget.target.cls.code_lt
  have := windowCode_lt r.sentTarget.window
  have hbits := r.bitsAt_packed (n := 4) rfl (by omega)
  exact ⟨(hbits 7 5).trans (by omega), (hbits 4 1).trans (by omega), (hbits 0 0).trans (by omega)⟩

theorem payload_run (hwidth : 1 ≤ r.sentTarget.target.width ∧ r.sentTarget.target.width ≤ 8) :
    bitsAt r.payload 9 7 3 = r.sentTarget.target.first.val ∧
    bitsAt r.payload 9 2 0 = r.sentTarget.target.width - 1 := by
  have hbits := r.bitsAt_packed (n := 5) rfl (by omega)
  exact ⟨(hbits 7 3).trans (by omega), (hbits 2 0).trans (by omega)⟩

theorem payload_noTarget (h : r.target = none) :
    bitsAt r.payload 7 1 1 = 0 ∧ numAt r.payload 8 = 0 ∧ numAt r.payload 9 = 0 := by
  have hspread : r.sentTarget.target.spread.code = 0 := by rw [sentTarget, h]; rfl
  have hclassWindow : r.packed[4]? = some 0 := by rw [packed, sentTarget, h]; rfl
  have hrun : r.packed[5]? = some 0 := by rw [packed, sentTarget, h]; rfl
  obtain ⟨-, -, hbit, -⟩ := r.payload_tier_grade_spread
  exact ⟨hbit.trans hspread, r.numAt_packed hclassWindow (by decide), r.numAt_packed hrun (by decide)⟩

/-- Eight flags in one byte, from bit 7 down. -/
theorem payload_flags_causes : bitsAt r.payload 10 7 7 = r.late.toNat ∧ bitsAt r.payload 10 6 6 = r.overflow.toNat ∧
    bitsAt r.payload 10 5 5 = r.exceptionRoute.toNat ∧ bitsAt r.payload 10 4 4 = r.causes.noProfile.toNat ∧
    bitsAt r.payload 10 3 3 = r.causes.manualDefect.toNat ∧ bitsAt r.payload 10 2 2 = r.causes.labelMismatch.toNat ∧
    bitsAt r.payload 10 1 1 = r.causes.missingMandatory.toNat ∧
    bitsAt r.payload 10 0 0 = r.causes.observationLost.toNat := by
  have := r.late.toNat_lt
  have := r.overflow.toNat_lt
  have := r.exceptionRoute.toNat_lt
  have := r.causes.noProfile.toNat_lt
  have := r.causes.manualDefect.toNat_lt
  have := r.causes.labelMismatch.toNat_lt
  have := r.causes.missingMandatory.toNat_lt
  have := r.causes.observationLost.toNat_lt
  have hcauses : r.causes.resultBits = 16 * r.causes.noProfile.toNat + 8 * r.causes.manualDefect.toNat +
    4 * r.causes.labelMismatch.toNat + 2 * r.causes.missingMandatory.toNat + r.causes.observationLost.toNat := rfl
  have hbits := r.bitsAt_packed (n := 6) rfl (by omega)
  exact ⟨(hbits 7 7).trans (by omega), (hbits 6 6).trans (by omega), (hbits 5 5).trans (by omega),
    (hbits 4 4).trans (by omega), (hbits 3 3).trans (by omega), (hbits 2 2).trans (by omega),
    (hbits 1 1).trans (by omega), (hbits 0 0).trans (by omega)⟩

theorem payload_flags_count (hcount : r.observations.length ≤ 12) : bitsAt r.payload 11 7 7 = r.ageUnknown.toNat ∧
    bitsAt r.payload 11 6 6 = r.weightUnchecked.toNat ∧ bitsAt r.payload 11 5 4 = 0 ∧
    bitsAt r.payload 11 3 0 = r.observations.length := by
  have := r.ageUnknown.toNat_lt
  have := r.weightUnchecked.toNat_lt
  have hbits := r.bitsAt_packed (n := 7) rfl (by omega)
  exact ⟨(hbits 7 7).trans (by omega), (hbits 6 6).trans (by omega), (hbits 5 4).trans (by omega),
    (hbits 3 0).trans (by omega)⟩

end Bytes

section Score

variable {r : ItemResult}

theorem payload_delivery (r : ItemResult) : numAt r.payload 12 = r.sentDelivery.chute.val ∧
    wordAt r.payload 13 = r.sentDelivery.toteId.toNat :=
  ⟨numAt_byteOf (r.payload_head (by decide)) (by omega),
    wordAt_bytes2 (r.payload_head (by decide)) (r.payload_head (by decide)) r.sentDelivery.toteId.isLt⟩

theorem payload_penalties (h : ItemRanges r) : wordAt r.payload 15 = r.score.weight ∧
    wordAt r.payload 17 = r.score.age ∧ numAt r.payload 19 = r.score.tag ∧
    (r.payload.getD 20 0).toInt = r.score.reason := by
  obtain ⟨-, hweight, hage, htag, hlow, hhigh, -⟩ := h.score
  refine ⟨wordAt_bytes2 (r.payload_head (by decide)) (r.payload_head (by decide)) (by omega),
    wordAt_bytes2 (r.payload_head (by decide)) (r.payload_head (by decide)) (by omega),
    numAt_byteOf (r.payload_head (by decide)) (by omega), ?_⟩
  have hsigned : r.payload.getD 20 0 = BitVec.ofInt 8 r.score.reason := r.payload_head (by decide)
  rw [hsigned, BitVec.toInt_ofInt]
  exact Int.bmod_eq_of_le (by omega) (by omega)

/-- The defect part and the total share the middle of three bytes. -/
theorem payload_defect_total (h : ItemRanges r) : wordAt r.payload 21 / 16 = r.score.defect ∧
    wordAt r.payload 22 % 4096 = r.score.total := by
  obtain ⟨hdefect, -, -, -, -, -, htotal⟩ := h.score
  have hhigh : numAt r.payload 21 = r.score.defect / 16 := numAt_byteOf (r.payload_head (by decide)) (by omega)
  have hmid : numAt r.payload 22 = r.score.defect % 16 * 16 + r.score.total / 256 :=
    numAt_byteOf (r.payload_head (by decide)) (by omega)
  have hlow : numAt r.payload 23 = r.score.total % 256 := numAt_eq_mod (r.payload_head (by decide))
  rw [wordAt, wordAt, hhigh, hmid, hlow]
  omega

theorem payload_entry (h : ItemRanges r) {n : Nat} (hn : n < r.observations.length) :
    numAt r.payload (24 + 3 * n) = r.observations[n].1.val ∧
    wordAt r.payload (25 + 3 * n) = r.observations[n].2 := by
  have hpoints := h.list.2 _ (List.getElem_mem hn)
  have hplace : ∀ {i j : Nat}, i = 24 + 3 * n + j → j < 3 →
      r.payload.getD i 0 = (resultEntry r.observations[n]).getD j 0 := by
    rintro i j rfl hj
    exact r.payload_list hn hj
  exact ⟨numAt_byteOf (hplace (j := 0) (by omega) (by decide)) (by omega),
    wordAt_bytes2 (hplace (j := 1) (by omega) (by decide)) (hplace (j := 2) (by omega) (by decide)) (by omega)⟩

end Score

/-- The payload of a result in its ranges holds each field in its place. -/
theorem payload_places {r : ItemResult} (h : ItemRanges r) : ItemPayload r r.payload := by
  obtain ⟨hcategory, houtcome⟩ := r.payload_category_outcome
  obtain ⟨hreason, hlaps⟩ := r.payload_reason_laps h.laps
  obtain ⟨htier, hgrade, hspread, hunused7⟩ := r.payload_tier_grade_spread
  obtain ⟨hcls, hwindow, hunused8⟩ := r.payload_class_window
  obtain ⟨hfirst, hwidth⟩ := r.payload_run (sentTarget_width h)
  obtain ⟨hlate, hoverflow, hexception, hcauses⟩ := r.payload_flags_causes
  obtain ⟨hageUnknown, hunchecked, hunused11, hcount⟩ := r.payload_flags_count h.list.1
  obtain ⟨hchute, htote⟩ := r.payload_delivery
  obtain ⟨hdefect, htotal⟩ := payload_defect_total h
  exact {
    length := r.payload_length
    orderRef := append_bytes4 r.orderRef
    category := hcategory
    outcome := fun o ho => by rw [houtcome, outcomeCode, ho]; rfl
    key := r.payload_key
    reason := hreason
    laps := hlaps
    tier := htier
    grade := hgrade
    target := fun ct hct => by
      have hsent : r.sentTarget = ct := by rw [sentTarget, hct]; rfl
      rw [← hsent]
      exact ⟨hspread, hcls, hwindow, hfirst, hwidth⟩
    noTarget := r.payload_noTarget
    unused := ⟨hunused7, hunused8, hunused11⟩
    flags := ⟨hlate, hoverflow, hexception, hageUnknown, hunchecked⟩
    causes := hcauses
    count := hcount
    delivery := fun d hd => by
      have hsent : r.sentDelivery = d := by rw [sentDelivery, hd]; rfl
      rw [← hsent]
      exact ⟨hchute, htote⟩
    noDelivery := fun hd => by
      rw [hchute, htote, sentDelivery, hd]
      exact ⟨rfl, rfl⟩
    penalties := payload_penalties h
    defect := hdefect
    total := htotal
    list := fun n hn => payload_entry h hn }

end ItemResult

/-! ### The frame of each entry (R146 to R149, R157, R158) -/

/-- An event's frame carries the tray, its kind, its subject and its detail, and the dropped count at its admission. -/
def EventSent (dropped : Nat) (a : Advisory) (tray : Tray) (code subject d0 d1 d2 d3 : Byte) : Prop :=
  IsFrame (OutFrame.event a dropped).bytes 0x1B tray [code, subject, d0, d1, d2, d3, byteOf dropped]

/-- The fields of an event are those of its frame; its row of R149 gives the detail bytes. -/
theorem EventSent.of_row {dropped : Nat} {a : Advisory} {d0 d1 d2 d3 : Byte} (hd : a.detail = [d0, d1, d2, d3]) :
    EventSent dropped a a.tray (byteOf (a.kind.index.val + 1)) a.subject d0 d1 d2 d3 := by
  have hpayload : a.payload dropped =
      [byteOf (a.kind.index.val + 1), a.subject, d0, d1, d2, d3, byteOf dropped] := by rw [Advisory.payload, hd]; rfl
  rw [EventSent, ← hpayload]
  exact frameBytes_isFrame 0x1B a.tray (a.payload dropped)

theorem Port.identifier_eq {p : StationPort} {at_ : Port} {subject : Byte} (h : at_ = .station p ∧ subject = byteOf p.val ∨
    at_ = .line ∧ subject = 8 ∨ at_ = .sorter ∧ subject = 9) : byteOf (Port.identifier at_) = subject := by
  rcases h with ⟨rfl, rfl⟩ | ⟨rfl, rfl⟩ | ⟨rfl, rfl⟩ <;> rfl

theorem RecordKind.code_eq {kind : RecordKind} {code : Byte} (h : kind = .defect ∧ code = 0x21 ∨
    kind = .tag ∧ code = 0x22 ∨ kind = .weight ∧ code = 0x23 ∨ kind = .itemDone ∧ code = 0x24) : kind.code = code := by
  rcases h with ⟨rfl, rfl⟩ | ⟨rfl, rfl⟩ | ⟨rfl, rfl⟩ | ⟨rfl, rfl⟩ <;> rfl

/-- Settles O50: what is admitted by the order of R164, the item result by its places, each other entry by its layout. -/
theorem entrySentAdmitsOneWaitingRecord : Obligations.EntrySentAdmitsOneWaitingRecord := by
  refine ⟨fun s f rest hup hs =>
      ⟨fun _ _ _ _ hc => exec_entrySent_result hup hs hc, fun hr => ⟨?tote, ?item, ?nothing⟩⟩,
    wireCodes, fun r h => ⟨r.payload, ItemResult.payload_places h, frameBytes_isFrame 0x18 r.tray r.payload⟩,
    fun r => frameBytes_isFrame 0x19 noTray r.payload, fun r => frameBytes_isFrame 0x1A noTray r.bytes,
    fun dropped p k j t => ⟨?port, ?rejected, ?refused, ?records, ?diverts, ?chute⟩⟩
  case tote => exact fun pre w post hw hpre hpost => exec_entrySent_tote hup hs hr hw hpre hpost
  case item => exact fun i hw hi holder => exec_entrySent_item hup hs hr hw hi holder
  case nothing =>
    intro hw hi
    simp only [List.append_nil]
    exact exec_entrySent_nothing hup hs hr hw hi
  case port =>
    exact ⟨EventSent.of_row rfl, fun _ _ _ => EventSent.of_row rfl, EventSent.of_row rfl, EventSent.of_row rfl,
      EventSent.of_row rfl, EventSent.of_row rfl, EventSent.of_row rfl, fun _ => EventSent.of_row rfl,
      EventSent.of_row rfl, EventSent.of_row rfl⟩
  case rejected =>
    intro kind at_ subject hat
    obtain rfl := Port.identifier_eq hat
    exact ⟨EventSent.of_row rfl, EventSent.of_row rfl, EventSent.of_row rfl⟩
  case refused => exact ⟨EventSent.of_row rfl, EventSent.of_row rfl, EventSent.of_row rfl⟩
  case records =>
    intro kind code hkind
    obtain rfl := RecordKind.code_eq hkind
    exact ⟨EventSent.of_row rfl, EventSent.of_row rfl, EventSent.of_row rfl, EventSent.of_row rfl, EventSent.of_row rfl⟩
  case diverts =>
    exact ⟨EventSent.of_row rfl, EventSent.of_row rfl, EventSent.of_row rfl, EventSent.of_row rfl, EventSent.of_row rfl,
      EventSent.of_row rfl, EventSent.of_row rfl, EventSent.of_row rfl⟩
  case chute =>
    exact ⟨EventSent.of_row rfl, fun _ => EventSent.of_row rfl, EventSent.of_row rfl, EventSent.of_row rfl,
      EventSent.of_row rfl, EventSent.of_row rfl, EventSent.of_row rfl, EventSent.of_row rfl, EventSent.of_row rfl⟩

end Sys2Proof.Machine
end

section
/-! Inbound frames read by the layouts of their kinds, and the frame of a command read back (R143, R144, R146 to R148). -/

namespace Sys2Proof.Machine

/-! ### The rows of a management command (R148, R176) -/

theorem byteAt_toNat (bs : List Byte) (i : Nat) : (byteAt bs i).toNat = numAt bs i := rfl

section Management

variable (tag : Byte) (ps : List Byte)

theorem mgmtInstr_goDetach (h : numAt ps 1 = 0 ∨ 6 < numAt ps 1) : mgmtInstr tag 0x03 ps = .goDetach tag ps := by
  simp only [mgmtInstr, BitVec.reduceToNat, byteAt_toNat]
  split
  case h_7 => rfl
  all_goals omega

theorem mgmtInstr_enable (h : numAt ps 1 = 0 ∨ 3 < numAt ps 1) : mgmtInstr tag 0x0B ps = .enable tag ps := by
  simp only [mgmtInstr, BitVec.reduceToNat, byteAt_toNat]
  split
  case h_4 => rfl
  all_goals omega

theorem mgmtInstr_badCommand {code : Byte} (h : code = 0x00 ∨ 0x13 < code.toNat) :
    mgmtInstr tag code ps = .badCommand tag code ps := by
  have hcode : code.toNat = 0 ∨ 0x13 < code.toNat := h.imp_left (fun h => congrArg BitVec.toNat h)
  unfold mgmtInstr
  split
  case h_20 => rfl
  all_goals omega

theorem mgmtRow (code : Byte) : MgmtRow tag code ps (mgmtInstr tag code ps) where
  configure := by rintro rfl; rfl
  portConfig := by rintro rfl; rfl
  goListen := by rintro rfl h; simp only [mgmtInstr, BitVec.reduceToNat, byteAt_toNat, h]
  goProbe := by rintro rfl h; simp only [mgmtInstr, BitVec.reduceToNat, byteAt_toNat, h]
  goReady := by rintro rfl h; simp only [mgmtInstr, BitVec.reduceToNat, byteAt_toNat, h]
  goPause := by rintro rfl h; simp only [mgmtInstr, BitVec.reduceToNat, byteAt_toNat, h]
  goResume := by rintro rfl h; simp only [mgmtInstr, BitVec.reduceToNat, byteAt_toNat, h]
  goListenToReady := by rintro rfl h; simp only [mgmtInstr, BitVec.reduceToNat, byteAt_toNat, h]
  goDetach := by rintro rfl h; exact mgmtInstr_goDetach tag ps h
  writeWeights := by rintro rfl; rfl
  writeProfile := by rintro rfl; rfl
  writeReasons := by rintro rfl; rfl
  writeWindow := by rintro rfl; rfl
  writeDefault := by rintro rfl; rfl
  chainLoad := by rintro rfl; rfl
  chainClear := by rintro rfl; rfl
  disable := by rintro rfl h; simp only [mgmtInstr, BitVec.reduceToNat, byteAt_toNat, h]
  closeNow := by rintro rfl h; simp only [mgmtInstr, BitVec.reduceToNat, byteAt_toNat, h]
  advance := by rintro rfl h; simp only [mgmtInstr, BitVec.reduceToNat, byteAt_toNat, h]
  enable := by rintro rfl h; exact mgmtInstr_enable tag ps h
  abandonTray := by rintro rfl; rfl
  readContext := by rintro rfl; rfl
  readChute := by rintro rfl; rfl
  readTable := by rintro rfl; rfl
  readStatus := by rintro rfl; rfl
  eventRoute := by rintro rfl; rfl
  ackAttention := by rintro rfl; rfl
  softReset := by rintro rfl; rfl
  badCommand := mgmtInstr_badCommand tag ps

end Management

/-! ### Inbound frames by the layouts of their kinds (R143, R146, R147) -/

section Layouts

variable {bytes pl : List Byte} {kind hi lo : Byte} {t : Tray} (h : FrameOf bytes kind hi lo pl)
  (ht : t.val = (hi.toNat * 256 + lo.toNat) % 1024)

include h ht

theorem FrameOf.lineCommand : LineCommand kind t pl (decodeFrame .line bytes) where
  induct := by
    rintro rfl hlen
    obtain ⟨hcategory, htier, hreason, hseason, hsize, hdays, hcatalogue⟩ := decodeInduct_fields pl
    rw [h.decodes (k := .induct) ht rfl (beq_iff_eq.mpr hlen) (by omega)]
    exact ⟨decodeInduct pl, rfl, hcategory, htier, hreason, hseason, hsize, hdays, hcatalogue, be32_eq_append _ _ _ _⟩
  mgmtCmd := by
    rintro tag code ps rfl rfl hlen
    have hlow : 2 ≤ (tag :: code :: ps).length := Nat.le_add_left 2 ps.length
    have hhigh : (tag :: code :: ps).length ≤ 60 := Nat.add_le_add_right hlen 2
    rw [h.decodes (k := .mgmtCmd) ht rfl (by simp only [InboundKind.allows, hlow, hhigh]; rfl) hhigh]
    exact mgmtRow tag ps code

theorem FrameOf.stationCommand (p : StationPort) : StationCommand p kind t pl (decodeFrame (.station p) bytes) where
  announce := by
    rintro cls cap rfl rfl
    exact h.decodes (k := .announce) ht rfl rfl (Nat.le_of_ble_eq_true rfl)
  obsDefect := by
    rintro rfl hlen
    exact ⟨_, _, _, h.decodes (k := .obsDefect) ht rfl (beq_iff_eq.mpr hlen) (by omega), rfl, rfl, rfl⟩
  obsTag := by
    rintro rfl hlen
    exact ⟨_, _, h.decodes (k := .obsTag) ht rfl (beq_iff_eq.mpr hlen) (by omega), getLsbD_toNat _ 1, getLsbD_toNat _ 0⟩
  obsWeight := by
    rintro hi lo rfl rfl
    exact h.decodes (k := .obsWeight) ht rfl rfl (Nat.le_of_ble_eq_true rfl)
  itemDone := by
    rintro rfl rfl
    exact h.decodes (k := .itemDone) ht rfl rfl (by decide)
  pauseAck := by
    rintro rfl rfl
    exact h.decodes (k := .pauseAck) ht rfl rfl (by decide)
  resumeAck := by
    rintro rfl rfl
    exact h.decodes (k := .resumeAck) ht rfl rfl (by decide)
  idle := by
    rintro rfl rfl
    exact h.decodes (k := .idle) ht rfl rfl (by decide)

theorem FrameOf.sorterCommand {k : Chute} (hk : k.val = bitsAt pl 0 4 0) :
    SorterCommand kind t pl k (decodeFrame .sorter bytes) := by
  have hchute : k = fieldAt 32 (byteAt pl 0) 0 := Fin.ext hk
  subst hchute
  exact {
    decisionReq := by
      rintro rfl rfl
      exact h.decodes (k := .decisionReq) ht rfl rfl (by decide)
    divertDone := by
      rintro rfl hlen
      exact h.decodes (k := .divertDone) ht rfl (beq_iff_eq.mpr hlen) (by omega)
    divertMissed := by
      rintro rfl hlen
      exact h.decodes (k := .divertMissed) ht rfl (beq_iff_eq.mpr hlen) (by omega)
    toteFull := by
      rintro rfl hlen
      exact h.decodes (k := .toteFull) ht rfl (beq_iff_eq.mpr hlen) (by omega)
    toteInPlace := by
      rintro b hi lo rfl rfl
      exact h.decodes (k := .toteInPlace) ht rfl rfl (Nat.le_of_ble_eq_true rfl)
    chuteJam := by
      rintro rfl hlen
      exact h.decodes (k := .chuteJam) ht rfl (beq_iff_eq.mpr hlen) (by omega)
    chuteClear := by
      rintro rfl hlen
      exact h.decodes (k := .chuteClear) ht rfl (beq_iff_eq.mpr hlen) (by omega) }

end Layouts

theorem inboundLayouts : InboundLayouts :=
  fun _ _ _ _ _ _ _ h ht hk => ⟨h.lineCommand ht, h.stationCommand ht, h.sorterCommand ht hk⟩

/-! ### Frames that the encoder writes (R143) -/

/-- The two bytes of a tray field carry the tray in their low 10 bits. -/
theorem trayBytes_val (t : Tray) : t.val = ((byteOf (t.val / 256)).toNat * 256 + (byteOf t.val).toNat) % 1024 := by
  simp only [byteOf, BitVec.toNat_ofNat]
  omega

theorem lineCommand_frameBytes (kind : Byte) (t : Tray) (pl : List Byte) :
    LineCommand kind t pl (decodeFrame .line (frameBytes kind t pl)) :=
  (frameBytes_isFrame kind t pl).lineCommand (trayBytes_val t)

theorem stationCommand_frameBytes (p : StationPort) (kind : Byte) (t : Tray) (pl : List Byte) :
    StationCommand p kind t pl (decodeFrame (.station p) (frameBytes kind t pl)) :=
  (frameBytes_isFrame kind t pl).stationCommand (trayBytes_val t) p

theorem sorterCommand_frameBytes (kind : Byte) (t : Tray) (pl : List Byte) {k : Chute} (hk : k.val = bitsAt pl 0 4 0) :
    SorterCommand kind t pl k (decodeFrame .sorter (frameBytes kind t pl)) :=
  (frameBytes_isFrame kind t pl).sorterCommand (trayBytes_val t) hk

/-! ### The frame of a command read back (R143, R146 to R148) -/

/-- The frame of the command, if it is well-formed and a frame brings it, decodes to the command. -/
def ReadsBack (c : Instr) : Prop := ∀ (port : Port) (bytes : List Byte), WellFormed c = true →
  encodeFrame c = some (port, bytes) → decodeFrame port bytes = c

theorem ReadsBack.of_none {c : Instr} (h : encodeFrame c = none) : ReadsBack c := by
  intro port bytes _ hframe
  exact absurd (h.symm.trans hframe) (Option.some_ne_none _).symm

theorem ReadsBack.of_frame {c : Instr} {port : Port} {bytes : List Byte} (h : encodeFrame c = some (port, bytes))
    (hreads : decodeFrame port bytes = c) : ReadsBack c := by
  intro port' bytes' _ hframe
  obtain ⟨rfl, rfl⟩ := Prod.mk.inj (Option.some.inj (h.symm.trans hframe))
  exact hreads

/-- A management command is read back where its row of R148 is its own. -/
theorem ReadsBack.of_mgmt {c : Instr} {tag code : Byte} {ps : List Byte} (h : encodeFrame c = some (mgmtFrame tag code ps))
    (hwf : WellFormed c = true → paramsFit ps = true ∧ ∀ d, MgmtRow tag code ps d → d = c) : ReadsBack c := by
  intro port bytes hc hframe
  obtain ⟨hfits, hrow⟩ := hwf hc
  obtain ⟨rfl, rfl⟩ := Prod.mk.inj (Option.some.inj (h.symm.trans hframe))
  exact hrow _ ((lineCommand_frameBytes _ noTray _).mgmtCmd tag code ps rfl rfl (of_decide_eq_true hfits))

theorem targetIs_zero {ps : List Byte} (h : targetIs 0 ps = true) : numAt ps 1 = 0 ∨ 6 < numAt ps 1 :=
  (Bool.or_eq_true_iff.mp h).imp beq_iff_eq.mp of_decide_eq_true

theorem targetIs_succ {n : Nat} {ps : List Byte} (h : targetIs (n + 1) ps = true) : numAt ps 1 = n + 1 := beq_iff_eq.mp h

theorem actionIs_zero {ps : List Byte} (h : actionIs 0 ps = true) : numAt ps 1 = 0 ∨ 3 < numAt ps 1 :=
  (Bool.or_eq_true_iff.mp h).imp beq_iff_eq.mp of_decide_eq_true

theorem actionIs_succ {n : Nat} {ps : List Byte} (h : actionIs (n + 1) ps = true) : numAt ps 1 = n + 1 := beq_iff_eq.mp h

theorem namesNoCommand_iff {code : Byte} : namesNoCommand code = true ↔ code = 0x00 ∨ 0x13 < code.toNat :=
  Bool.or_eq_true_iff.trans (or_congr beq_iff_eq decide_eq_true_iff)

/-- The second check of a well-formed row picks the row, as the first bounds its parameters. -/
theorem wellFormed_row {a b : Bool} {p : Prop} (h : (a && b) = true) (hrow : b = true → p) : a = true ∧ p :=
  (Bool.and_eq_true_iff.mp h).imp_right hrow

theorem InductItem.eq_of_fields {f g : InductItem} (hcategory : f.category.val = g.category.val)
    (htier : f.tier.val = g.tier.val) (hreason : f.reason.val = g.reason.val) (hseason : f.season.val = g.season.val)
    (hsize : f.size.val = g.size.val) (hdays : f.days.val = g.days.val) (hcatalogue : f.catalogue.toNat = g.catalogue.toNat)
    (horder : f.orderRef = g.orderRef) : f = g := by
  cases f
  cases g
  exact InductItem.mk.injEq .. ▸ ⟨Fin.ext hcategory, Fin.ext htier, Fin.ext hseason, Fin.ext hsize, Fin.ext hreason,
    Fin.ext hdays, BitVec.eq_of_toNat_eq hcatalogue, horder⟩

theorem readsBack_induct (t : Tray) (item : InductItem) : ReadsBack (.induct t item) := by
  refine .of_frame rfl ?_
  obtain ⟨f, hf, hcategory, htier, hreason, hseason, hsize, hdays, hcatalogue, horder⟩ :=
    (lineCommand_frameBytes _ t (encodeInduct item)).induct rfl rfl
  have hdaysWord : wordAt (encodeInduct item) 3 = item.days.val := wordAt_bytes2 rfl rfl (by omega)
  obtain rfl : f = item := InductItem.eq_of_fields
    (hcategory.trans ((bitsAt_byteOf rfl (by omega) 5 0).trans (by omega)))
    (htier.trans ((bitsAt_byteOf rfl (by omega) 6 4).trans (by omega)))
    (hreason.trans ((bitsAt_byteOf rfl (by omega) 3 0).trans (by omega)))
    (hseason.trans ((bitsAt_byteOf rfl (by omega) 7 4).trans (by omega)))
    (hsize.trans ((bitsAt_byteOf rfl (by omega) 3 0).trans (by omega)))
    (hdays.trans ((congrArg (· % 1024) hdaysWord).trans (Nat.mod_eq_of_lt item.days.isLt)))
    (hcatalogue.trans (wordAt_bytes2 rfl rfl item.catalogue.isLt))
    (horder.trans (append_bytes4 item.orderRef))
  exact hf

theorem readsBack_obsDefect (p : StationPort) (t : Tray) (code : Fin 128) (zone : Fin 4) (extent : Fin 8) :
    ReadsBack (.obsDefect p t code zone extent) := by
  refine .of_frame rfl ?_
  obtain ⟨code', zone', extent', hread, hcode, hzone, hextent⟩ :=
    (stationCommand_frameBytes p _ t [byteOf code.val, byteOf (zone.val * 8 + extent.val)]).obsDefect rfl rfl
  obtain rfl : code' = code := Fin.ext (hcode.trans ((bitsAt_byteOf rfl (by omega) 6 0).trans (by omega)))
  obtain rfl : zone' = zone := Fin.ext (hzone.trans ((bitsAt_byteOf rfl (by omega) 4 3).trans (by omega)))
  obtain rfl : extent' = extent := Fin.ext (hextent.trans ((bitsAt_byteOf rfl (by omega) 2 0).trans (by omega)))
  exact hread

theorem bool_eq_of_toNat {a b : Bool} (h : a.toNat = b.toNat) : a = b := by
  revert a b
  decide

theorem readsBack_obsTag (p : StationPort) (t : Tray) (present mismatch : Bool) : ReadsBack (.obsTag p t present mismatch) := by
  refine .of_frame rfl ?_
  obtain ⟨present', mismatch', hread, hpresent, hmismatch⟩ :=
    (stationCommand_frameBytes p _ t [byteOf (present.toNat * 2 + mismatch.toNat)]).obsTag rfl rfl
  have := present.toNat_lt
  have := mismatch.toNat_lt
  obtain rfl : present' = present :=
    bool_eq_of_toNat (hpresent.trans ((bitsAt_byteOf rfl (by omega) 1 1).trans (by omega)))
  obtain rfl : mismatch' = mismatch :=
    bool_eq_of_toNat (hmismatch.trans ((bitsAt_byteOf rfl (by omega) 0 0).trans (by omega)))
  exact hread

theorem readsBack_obsWeight (p : StationPort) (t : Tray) (grams : BitVec 16) : ReadsBack (.obsWeight p t grams) := by
  have hread := (stationCommand_frameBytes p _ t (bytes2 grams.toNat)).obsWeight _ _ rfl rfl
  rw [append_bytes2] at hread
  exact .of_frame rfl hread

/-- The first byte of a sorter frame gives back the chute it was written from. -/
theorem chuteByte (k : Chute) (rest : List Byte) : k.val = bitsAt (byteOf k.val :: rest) 0 4 0 :=
  ((bitsAt_byteOf rfl (by omega) 4 0).trans (by omega)).symm

theorem readsBack_toteInPlace (k : Chute) (x : BitVec 16) : ReadsBack (.toteInPlace k x) := by
  have hread := (sorterCommand_frameBytes _ noTray _ (chuteByte k (bytes2 x.toNat))).toteInPlace _ _ _ rfl rfl
  rw [append_bytes2] at hread
  exact .of_frame rfl hread

theorem readsBack_frameRejected (p : Port) (bytes : List Byte) : ReadsBack (.frameRejected p bytes) := by
  intro port' bytes' hwf hframe
  obtain ⟨rfl, rfl⟩ := Prod.mk.inj (Option.some.inj hframe)
  obtain ⟨verdict, hverdict⟩ := Option.isSome_iff_exists.mp hwf
  simp only [decodeFrame, hverdict]
  rfl

theorem readsBack : ∀ c : Instr, ReadsBack c
  | .induct t item => readsBack_induct t item
  | .configure _ _ => .of_mgmt rfl fun h => ⟨h, fun _ row => row.configure rfl⟩
  | .portConfig _ _ => .of_mgmt rfl fun h => ⟨h, fun _ row => row.portConfig rfl⟩
  | .goDetach _ _ => .of_mgmt rfl fun h => wellFormed_row h fun h _ row => row.goDetach rfl (targetIs_zero h)
  | .goListen _ _ => .of_mgmt rfl fun h => wellFormed_row h fun h _ row => row.goListen rfl (targetIs_succ h)
  | .goProbe _ _ => .of_mgmt rfl fun h => wellFormed_row h fun h _ row => row.goProbe rfl (targetIs_succ h)
  | .goReady _ _ => .of_mgmt rfl fun h => wellFormed_row h fun h _ row => row.goReady rfl (targetIs_succ h)
  | .goPause _ _ => .of_mgmt rfl fun h => wellFormed_row h fun h _ row => row.goPause rfl (targetIs_succ h)
  | .goResume _ _ => .of_mgmt rfl fun h => wellFormed_row h fun h _ row => row.goResume rfl (targetIs_succ h)
  | .goListenToReady _ _ => .of_mgmt rfl fun h => wellFormed_row h fun h _ row => row.goListenToReady rfl (targetIs_succ h)
  | .writeWeights _ _ => .of_mgmt rfl fun h => ⟨h, fun _ row => row.writeWeights rfl⟩
  | .writeProfile _ _ => .of_mgmt rfl fun h => ⟨h, fun _ row => row.writeProfile rfl⟩
  | .writeReasons _ _ => .of_mgmt rfl fun h => ⟨h, fun _ row => row.writeReasons rfl⟩
  | .writeWindow _ _ => .of_mgmt rfl fun h => ⟨h, fun _ row => row.writeWindow rfl⟩
  | .writeDefault _ _ => .of_mgmt rfl fun h => ⟨h, fun _ row => row.writeDefault rfl⟩
  | .chainLoad _ _ => .of_mgmt rfl fun h => ⟨h, fun _ row => row.chainLoad rfl⟩
  | .chainClear _ _ => .of_mgmt rfl fun h => ⟨h, fun _ row => row.chainClear rfl⟩
  | .enable _ _ => .of_mgmt rfl fun h => wellFormed_row h fun h _ row => row.enable rfl (actionIs_zero h)
  | .disable _ _ => .of_mgmt rfl fun h => wellFormed_row h fun h _ row => row.disable rfl (actionIs_succ h)
  | .closeNow _ _ => .of_mgmt rfl fun h => wellFormed_row h fun h _ row => row.closeNow rfl (actionIs_succ h)
  | .advance _ _ => .of_mgmt rfl fun h => wellFormed_row h fun h _ row => row.advance rfl (actionIs_succ h)
  | .abandonTray _ _ => .of_mgmt rfl fun h => ⟨h, fun _ row => row.abandonTray rfl⟩
  | .readContext _ _ => .of_mgmt rfl fun h => ⟨h, fun _ row => row.readContext rfl⟩
  | .readChute _ _ => .of_mgmt rfl fun h => ⟨h, fun _ row => row.readChute rfl⟩
  | .readTable _ _ => .of_mgmt rfl fun h => ⟨h, fun _ row => row.readTable rfl⟩
  | .readStatus _ _ => .of_mgmt rfl fun h => ⟨h, fun _ row => row.readStatus rfl⟩
  | .eventRoute _ _ => .of_mgmt rfl fun h => ⟨h, fun _ row => row.eventRoute rfl⟩
  | .ackAttention _ _ => .of_mgmt rfl fun h => ⟨h, fun _ row => row.ackAttention rfl⟩
  | .softReset _ _ => .of_mgmt rfl fun h => ⟨h, fun _ row => row.softReset rfl⟩
  | .badCommand _ _ _ => .of_mgmt rfl fun h => wellFormed_row h fun h _ row => row.badCommand (namesNoCommand_iff.mp h)
  | .obsDefect p t code zone extent => readsBack_obsDefect p t code zone extent
  | .obsTag p t present mismatch => readsBack_obsTag p t present mismatch
  | .obsWeight p t grams => readsBack_obsWeight p t grams
  | .itemDone p t => .of_frame rfl ((stationCommand_frameBytes p _ t []).itemDone rfl rfl)
  | .announce p cls cap => .of_frame rfl ((stationCommand_frameBytes p _ noTray [cls, cap]).announce cls cap rfl rfl)
  | .pauseAck p => .of_frame rfl ((stationCommand_frameBytes p _ noTray []).pauseAck rfl rfl)
  | .resumeAck p => .of_frame rfl ((stationCommand_frameBytes p _ noTray []).resumeAck rfl rfl)
  | .idle p => .of_frame rfl ((stationCommand_frameBytes p _ noTray []).idle rfl rfl)
  | .frameRejected p bytes => readsBack_frameRejected p bytes
  | .decisionReq t => .of_frame rfl ((sorterCommand_frameBytes _ t [] (k := 0) rfl).decisionReq rfl rfl)
  | .divertDone t k => .of_frame rfl ((sorterCommand_frameBytes _ t _ (chuteByte k [])).divertDone rfl rfl)
  | .divertMissed t k => .of_frame rfl ((sorterCommand_frameBytes _ t _ (chuteByte k [])).divertMissed rfl rfl)
  | .toteFull k => .of_frame rfl ((sorterCommand_frameBytes _ noTray _ (chuteByte k [])).toteFull rfl rfl)
  | .toteInPlace k x => readsBack_toteInPlace k x
  | .chuteJam k => .of_frame rfl ((sorterCommand_frameBytes _ noTray _ (chuteByte k [])).chuteJam rfl rfl)
  | .chuteClear k => .of_frame rfl ((sorterCommand_frameBytes _ noTray _ (chuteByte k [])).chuteClear rfl rfl)
  | .tableWrite | .probeWindowExpiry _ | .pauseTimeout _ | .resumeTimeout _ | .takeDefectRecord _ | .takeTagRecord _
  | .takeWeightRecord _ | .takeItemDoneRecord _ | .gradingStart | .gradingCompletion | .orderExpiry _ _ | .entrySent
  | .portFrameSent _ | .linkUp _ | .linkDown _ | .powerOnReset => .of_none rfl

/-- Settles O53: each frame by the layout of its kind, and from it the command of each frame that the encoder writes. -/
theorem frameOfCommandDecodesToIt : Obligations.FrameOfCommandDecodesToIt :=
  ⟨inboundLayouts, readsBack⟩

end Sys2Proof.Machine
end

section
/-! Offered events, management results and BUSY answers as one equation for each case of the queue's room, and the report unit's own
commands (R159 to R161, R163 to R165, R169, R171). -/

namespace Sys2Proof.Machine

/-! ### Advisory records by the room for them (R164, R165) -/

section Advisory

variable {s : State}

theorem State.admitEvent_of_le (h : s.outbound.length ≤ 56) (a : Advisory) :
    s.admitEvent a = { s with outbound := s.outbound ++ [.event a s.dropped], dropped := 0 } :=
  if_pos (s.hasAdvisoryRoom_iff.mpr h)

theorem State.admitEvent_of_lt (h : 56 < s.outbound.length) (a : Advisory) :
    s.admitEvent a = { s with dropped := if s.dropped < 255 then s.dropped + 1 else 255 } :=
  (if_neg fun hr => Nat.not_le_of_lt h (s.hasAdvisoryRoom_iff.mp hr)).trans s.dropAdvisory_eq

theorem State.offerBusy_of_le (h : s.outbound.length ≤ 56) (tag code : Byte) : s.offerBusy tag code =
    { s with outbound := s.outbound ++ [.mgmt { tag := tag, code := code, result := .busy, payload := [] }] } :=
  if_pos (s.hasAdvisoryRoom_iff.mpr h)

theorem State.offerBusy_of_lt (h : 56 < s.outbound.length) (tag code : Byte) :
    s.offerBusy tag code = { s with dropped := if s.dropped < 255 then s.dropped + 1 else 255 } :=
  (if_neg fun hr => Nat.not_le_of_lt h (s.hasAdvisoryRoom_iff.mp hr)).trans s.dropAdvisory_eq

theorem State.offerEvent_of_off {a : Advisory} (h : s.route a.kind = .off) : s.offerEvent a = s := by
  rw [State.offerEvent, h]

theorem State.offerEvent_of_frame {a : Advisory} (h : s.route a.kind = .frame) : s.offerEvent a = s.admitEvent a := by
  rw [State.offerEvent, h]

theorem State.offerEvent_of_frameAndAttention {a : Advisory} (h : s.route a.kind = .frameAndAttention) :
    s.offerEvent a = State.admitEvent { s with attention := true } a := by
  rw [State.offerEvent, h]

end Advisory

/-- Settles O4: the route of the event's kind, and then the room for advisory records. -/
theorem offeredEventIsRoutedAndCounted : Obligations.OfferedEventIsRoutedAndCounted := by
  refine fun a s => ⟨State.offerEvent_of_off, fun hr h => ?_, fun hr h => ?_, fun hr h => ?_, fun hr h => ?_⟩
  · rw [State.offerEvent_of_frame hr, State.admitEvent_of_le h]
  · rw [State.offerEvent_of_frame hr, State.admitEvent_of_lt h]
  · exact (State.offerEvent_of_frameAndAttention hr).trans (State.admitEvent_of_le (s := { s with attention := true }) h a)
  · exact (State.offerEvent_of_frameAndAttention hr).trans (State.admitEvent_of_lt (s := { s with attention := true }) h a)

/-! ### Management results (R163, R169, R171) -/

section Results

variable {s : State} {r : ResultCode} {payload sent : List Byte}

/-- The payload of a result is that of an OK result, and none is carried by another (R171). -/
theorem sentPayload_eq (hok : r = .ok → sent = payload) (hfail : r ≠ .ok → sent = []) :
    (if r = .ok then payload else []) = sent := by
  split
  · next h => exact (hok h).symm
  · next h => exact (hfail h).symm

theorem State.finish_of_lt (h : s.outbound.length < 64) (tag code : Byte) (params : List Byte) :
    s.finish tag code params r payload = { s with
      outbound := s.outbound ++
        [.mgmt { tag := tag, code := code, result := r, payload := if r = .ok then payload else [] }],
      command := none } :=
  if_pos (s.hasRoom_iff.mpr h)

theorem State.finish_of_le (h : 64 ≤ s.outbound.length) (tag code : Byte) (params : List Byte) :
    s.finish tag code params r payload = { s with
      command := some { tag := tag, code := code, params := params,
                        phase := .result { tag := tag, code := code, result := r,
                                           payload := if r = .ok then payload else [] } } } :=
  if_neg fun hr => Nat.not_le_of_lt (s.hasRoom_iff.mp hr) h

/-- Every command that an MGMT_CMD brings is run by the engine under its tag, code and parameters (R148, R169). -/
theorem exec_management {c : Instr} {tag code : Byte} {params : List Byte} (h : managementOf c = some (tag, code, params)) :
    ∃ act : State → State × Reply, ∀ s, exec c s = .next (s.runCommand tag code params act) := by
  cases c <;> cases h <;> exact ⟨_, fun _ => rfl⟩

/-- A management command that arrives while another is in progress is answered BUSY (R169). -/
theorem exec_management_busy {c : Instr} {tag code : Byte} {params : List Byte}
    (h : managementOf c = some (tag, code, params)) (hc : s.command ≠ none) : exec c s = .next (s.offerBusy tag code) := by
  obtain ⟨act, hact⟩ := exec_management h
  rcases s.runCommand_cases tag code params act with ⟨_, he⟩ | ⟨hnone, _⟩
  · rw [hact, he]
  · exact absurd hnone hc

end Results

/-- Settles O5: the room for a must-deliver record, and that for an advisory one. -/
theorem managementResultAndBusyAnswer : Obligations.ManagementResultAndBusyAnswer := by
  refine ⟨fun s tag code params r payload sent hok hfail => ⟨fun h => ?_, fun h => ?_⟩,
    fun c tag code params s hm hc => ⟨fun h => ?_, fun h => ?_⟩⟩
  · rw [State.finish_of_lt h, sentPayload_eq hok hfail]
  · rw [State.finish_of_le h, sentPayload_eq hok hfail]
  · rw [exec_management_busy hm hc, State.offerBusy_of_le h]
  · rw [exec_management_busy hm hc, State.offerBusy_of_lt h]

/-! ### EVENT_ROUTE and ACK_ATTENTION (R160, R161) -/

theorem EventKind.index_injective {j k : EventKind} (h : j.index = k.index) : j = k := by
  have hctor : ∀ e : EventKind, e.index.val = e.ctorIdx := fun e => by cases e <;> rfl
  rw [← EventKind.ofNat_ctorIdx j, ← EventKind.ofNat_ctorIdx k, ← hctor, ← hctor, h]

theorem routeOf_eq_some {b : Byte} {r : Route} (h : b.toNat = r.code) : routeOf b = some r := by
  unfold routeOf
  rw [h]
  cases r <;> rfl

theorem parseRoute_eq {kind route : Byte} {k : EventKind} {r : Route} (hk : kind.toNat = k.index.val + 1)
    (hr : route.toNat = r.code) : parseRoute [kind, route] = some (k.index, r) := by
  have hindex : indexOf 12 (kind - 1) = some k.index := indexOf_eq_some.mpr (by bv_omega)
  have hpos : ¬ kind.toNat = 0 := by omega
  simp only [parseRoute, routeOf_eq_some hr, if_neg hpos, hindex, Option.bind_eq_bind, Option.bind_some, Option.pure_def]

/-- The route table after one kind's route has been written, read at each kind. -/
theorem State.routes_set_index (s : State) (k j : EventKind) (r : Route) :
    (s.routes.set k.index r)[j.index] = if j = k then r else s.route j := by
  simp only [State.route, Fin.getElem_fin, Vector.getElem_set, Fin.val_inj]
  by_cases h : j = k
  · subst h
    rw [if_pos rfl, if_pos rfl]
  · rw [if_neg h, if_neg fun he => h (EventKind.index_injective he.symm)]

section Commands

variable {s : State} (hs : s.command = none) {kind route : Byte}

include hs

theorem exec_eventRoute {k : EventKind} {r : Route} (hk : kind.toNat = k.index.val + 1) (hr : route.toNat = r.code) (tag : Byte) :
    exec (.eventRoute tag [kind, route]) s =
      .next (State.finish { s with routes := s.routes.set k.index r } tag 0x11 [kind, route] .ok [kind, route]) := by
  refine congrArg _ (State.runCommand_done hs ?_)
  rw [eventRouteAct, parseRoute_eq hk hr]
  simp only [byteOf_eq hk, byteOf_eq hr]

theorem exec_eventRoute_refused (h : kind = 0 ∨ 12 < kind.toNat ∨ 2 < route.toNat) (tag : Byte) :
    exec (.eventRoute tag [kind, route]) s = .next (s.finish tag 0x11 [kind, route] .badParam []) := by
  have hparse : parseRoute [kind, route] = none := by
    refine eq_none_of_not_fits parseRoute_fits ?_
    rintro ⟨-, hzero, hkind, hroute⟩
    rcases h with rfl | h | h
    · exact hzero rfl
    · exact Nat.not_le_of_lt h hkind
    · exact Nat.not_le_of_lt h hroute
  exact congrArg _ (runCommand_refused hs (by simp only [eventRouteAct, hparse]) tag 0x11)

end Commands

/-- Settles O47: the route written at its kind's place, the codes refused, and the attention state cleared. -/
theorem routesAndAttentionAreWritten : Obligations.RoutesAndAttentionAreWritten := fun s tag hs =>
  ⟨fun _ _ k r hk hr => ⟨s.routes.set k.index r, fun j => s.routes_set_index k j r, exec_eventRoute hs hk hr tag⟩,
    fun _ _ h => exec_eventRoute_refused hs h tag, congrArg _ (State.runCommand_done hs rfl)⟩

end Sys2Proof.Machine
end

section
/-! The outbound queue's law through the shared operations: a frame joins only where there is room, and a record begins to wait only
where there is none (R162 to R165). -/

namespace Sys2Proof.Machine

/-! ### What keeps the queue sound (R163 to R165) -/

section Law

variable {s t : State}

theorem OutboundSound.length_le (hs : OutboundSound s) : s.outbound.length ≤ 64 := hs.1

theorem OutboundSound.length_of_waits (hs : OutboundSound s) (hw : s.recordWaits) : s.outbound.length = 64 := hs.2.1 hw

theorem OutboundSound.dropped_le (hs : OutboundSound s) : s.dropped ≤ 255 := hs.2.2

/-- A record waits in t only where one waits in s, if nothing new waits in the engine, at the chutes or in a context. -/
theorem State.recordWaits_of_owners (hr : t.waitingResult.isSome → s.waitingResult.isSome)
    (hw : t.waitingTotes ≠ [] → s.waitingTotes ≠ [])
    (hc : ∀ i, (t.context i).state = .reporting → (s.context i).state = .reporting) : t.recordWaits → s.recordWaits
  | .inl h => .inl (hr h)
  | .inr (.inl h) => .inr (.inl (hw h))
  | .inr (.inr ⟨i, h⟩) => .inr (.inr ⟨i, hc i h⟩)

/-- An engine that holds no result adds no waiting record. -/
theorem State.recordWaits_of_command {c : Option Command} (h : State.waitingResult { s with command := c } = none) :
    State.recordWaits { s with command := c } → s.recordWaits :=
  State.recordWaits_of_owners (fun hr => absurd hr (by rw [h]; exact Bool.false_ne_true)) id fun _ => id

/-- At most one frame joins, into a queue with room, and no new record waits. -/
theorem OutboundSound.of_waits (hs : OutboundSound s) (hw : t.recordWaits → s.recordWaits) (hd : t.dropped ≤ 255)
    (ho : t.outbound = s.outbound ∨ s.outbound.length < 64 ∧ ∃ f, t.outbound = s.outbound ++ [f]) : OutboundSound t := by
  rcases ho with ho | ⟨hroom, f, ho⟩
  · exact ⟨ho ▸ hs.length_le, fun h => ho ▸ hs.length_of_waits (hw h), hd⟩
  · have hnone : ¬ t.recordWaits := fun h => Nat.ne_of_lt hroom (hs.length_of_waits (hw h))
    refine ⟨?_, fun h => absurd h hnone, hd⟩
    rw [ho, List.length_append]
    exact hroom

/-- Any record may wait while the queue is full. -/
theorem OutboundSound.of_full (hs : OutboundSound s) (hfull : 64 ≤ s.outbound.length) (ho : t.outbound = s.outbound)
    (hd : t.dropped = s.dropped) : OutboundSound t :=
  ⟨ho ▸ hs.length_le, fun _ => ho ▸ Nat.le_antisymm hs.length_le hfull, hd ▸ hs.dropped_le⟩

/-- A frame joins a queue with room, the dropped count stays, and no new record waits. -/
theorem OutboundSound.joins (hs : OutboundSound s) (hroom : s.outbound.length < 64) {f : OutFrame}
    (ho : t.outbound = s.outbound ++ [f]) (hd : t.dropped = s.dropped) (hw : t.recordWaits → s.recordWaits) : OutboundSound t :=
  hs.of_waits hw (hd ▸ hs.dropped_le) (.inr ⟨hroom, f, ho⟩)

/-- The report unit, the engine and the waiting totes stay, and no context enters REPORTING. -/
theorem OutboundSound.of_frame (hs : OutboundSound s) (frame : t = { t with
      outbound := s.outbound, dropped := s.dropped, command := s.command, waitingTotes := s.waitingTotes })
    (hc : ∀ i, (t.context i).state = .reporting → (s.context i).state = .reporting) : OutboundSound t := by
  have ho : t.outbound = s.outbound := by rw [frame]
  have hd : t.dropped = s.dropped := by rw [frame]
  have hw : t.waitingTotes = s.waitingTotes := by rw [frame]
  have hcmd : t.command = s.command := by rw [frame]
  have hr : t.waitingResult = s.waitingResult := by rw [State.waitingResult, hcmd, State.waitingResult]
  exact hs.of_waits (State.recordWaits_of_owners (hr ▸ id) (hw ▸ id) hc) (hd ▸ hs.dropped_le) (.inl ho)

/-- A record that waits takes the place of the entry that leaves (R164). -/
theorem OutboundSound.of_replaced (hs : OutboundSound s) {f g : OutFrame} {rest : List OutFrame} (h : s.outbound = f :: rest)
    (hw : s.recordWaits) (ho : t.outbound = rest ++ [g]) (hd : t.dropped = s.dropped) : OutboundSound t := by
  have hlen : t.outbound.length = 64 := by
    rw [ho, List.length_append, List.length_singleton, ← hs.length_of_waits hw, h, List.length_cons]
  exact ⟨Nat.le_of_eq hlen, fun _ => hlen, hd ▸ hs.dropped_le⟩

/-- With no command in progress a soft reset leaves no record waiting and an empty queue (R182). -/
theorem OutboundSound.softReset (hc : s.command = none) : OutboundSound s.softReset := by
  refine ⟨Nat.zero_le _, ?_, Nat.zero_le _⟩
  rintro (h | h | ⟨i, h⟩)
  · have hnone : s.softReset.waitingResult = none := by
      show s.waitingResult = none
      simp only [State.waitingResult, hc]
    rw [hnone] at h
    cases h
  · exact absurd rfl h
  · rw [show s.softReset.context i = {} from State.reset_context i] at h
    cases h

end Law

/-- A withdrawal leaves a context OPEN or QUEUED, or as it was (R21). -/
theorem Context.reporting_of_withdrawn {p : StationPort} {c : Context} (h : (c.withdrawn p).state = .reporting) :
    c.state = .reporting := by
  unfold Context.withdrawn at h
  split at h
  · dsimp only at h
    split at h <;> cases h
  · exact h

section Operations

variable {s : State} (hs : OutboundSound s)

include hs

/-! ### The report unit and the engine -/

theorem OutboundSound.offerEvent (a : Advisory) : OutboundSound (s.offerEvent a) := by
  refine hs.of_waits ?_ (s.offerEvent_dropped_le a hs.dropped_le) ((s.offerEvent_outbound a).imp_right ?_)
  · rw [State.offerEvent_frame]
    exact id
  · rintro ⟨hroom, n, ho⟩
    exact ⟨by omega, _, ho⟩

theorem OutboundSound.offerBusy (tag code : Byte) : OutboundSound (s.offerBusy tag code) := by
  unfold State.offerBusy
  split
  · next h =>
    have hroom := s.hasAdvisoryRoom_iff.mp h
    exact hs.joins (by omega) rfl rfl id
  · exact hs.of_waits id (Nat.min_le_left _ _) (.inl rfl)

theorem OutboundSound.finish (tag code : Byte) (ps : List Byte) (r : ResultCode) (pl : List Byte) :
    OutboundSound (s.finish tag code ps r pl) := by
  rcases Nat.lt_or_ge s.outbound.length 64 with h | h
  · rw [State.finish_of_lt h]
    exact hs.joins h rfl rfl (State.recordWaits_of_command (c := none) rfl)
  · rw [State.finish_of_le h]
    exact hs.of_full h rfl rfl

/-- A management command keeps the queue sound if its execution does, which starts with no command in progress. -/
theorem OutboundSound.runCommand {act : State → State × Reply} (tag code : Byte) (ps : List Byte)
    (hact : s.command = none → OutboundSound (act s).1) : OutboundSound (s.runCommand tag code ps act) := by
  rcases s.runCommand_cases tag code ps act with ⟨_, he⟩ | ⟨hc, ⟨t, r, pl, ha, he⟩ | ⟨t, ha, he⟩⟩ <;> rw [he]
  · exact hs.offerBusy tag code
  · rw [ha] at hact
    exact (hact hc).finish tag code ps r pl
  · rw [ha] at hact
    have ht : OutboundSound t := hact hc
    exact ht.of_waits (State.recordWaits_of_command rfl) ht.dropped_le (.inl rfl)

/-- The entry that leaves makes room for one waiting record, which is admitted in the same step (R162 to R164). -/
theorem OutboundSound.entrySent {f : OutFrame} {rest : List OutFrame} (h : s.outbound = f :: rest) :
    OutboundSound (s.headLeft rest).admitWaiting := by
  rcases (s.headLeft rest).admitWaiting_cases with ⟨r, hr, he⟩ | ⟨hr, ⟨w, hw, he⟩ | ⟨hw, ⟨i, hi, he⟩ | ⟨hi, he⟩⟩⟩ <;> rw [he]
  · have hwaits : s.recordWaits := .inl (Option.isSome_of_mem hr)
    exact hs.of_replaced h hwaits rfl rfl
  · have hwaits : s.recordWaits := .inr (.inl (List.ne_nil_of_mem (State.nextTote_mem _ hw)))
    exact hs.of_replaced h hwaits rfl rfl
  · have hwaits : s.recordWaits := .inr (.inr ⟨i, (s.headLeft rest).nextItem_reporting hi⟩)
    exact hs.of_replaced h hwaits rfl rfl
  · have hnone : ¬ (s.headLeft rest).recordWaits := by
      rintro (h | h | ⟨i, h⟩)
      · simp [hr] at h
      · simpa [hw] using State.nextTote_isSome _ h
      · simpa [hi] using State.nextItem_isSome _ h
    have hlen := hs.length_le
    rw [h, List.length_cons] at hlen
    exact ⟨Nat.le_of_succ_le hlen, fun hw => absurd hw hnone, hs.dropped_le⟩

/-! ### Contexts -/

theorem OutboundSound.modContext (i : ContextIndex) {f : Context → Context}
    (hf : (f (s.context i)).state = .reporting → (s.context i).state = .reporting) : OutboundSound (s.modContext i f) := by
  refine hs.of_frame rfl fun j hj => ?_
  rw [State.context_modContext] at hj
  split at hj
  · next hij => exact hij ▸ hf hj
  · exact hj

theorem OutboundSound.forContext (c : Option ContextIndex) {f : State → ContextIndex → State}
    (hf : ∀ i, OutboundSound (f s i)) : OutboundSound (s.forContext c f) := by
  cases c with
  | none => exact hs
  | some i => exact hf i

theorem OutboundSound.startGrading : OutboundSound s.startGrading := by
  refine hs.of_frame (by rw [State.startGrading_frame]) fun i hi => ?_
  rcases s.startGrading_context i with h | h <;> rw [h] at hi
  · exact hi
  · cases hi

theorem OutboundSound.enqueue (is : List ContextIndex) : OutboundSound (s.enqueue is) := by
  refine hs.of_frame (by rw [State.enqueue_frame]) fun i hi => ?_
  rcases s.enqueue_context is i with h | h <;> rw [h] at hi
  · exact hi
  · cases hi

theorem OutboundSound.seal (i : ContextIndex) : OutboundSound (s.seal i) := by
  unfold State.seal
  split
  · exact (hs.modContext i (f := fun c => { c with state := .queued }) (fun h => nomatch h)).enqueue [i]
  · exact hs

theorem OutboundSound.withdraw (p : StationPort) : OutboundSound (s.withdraw p) := by
  have hwithdrawing : OutboundSound (s.withdrawing p) := hs.of_frame rfl fun i hi => by
    rw [State.withdrawing_context] at hi
    exact Context.reporting_of_withdrawn hi
  rw [State.withdraw_eq]
  split
  · exact hwithdrawing.startGrading
  · exact hwithdrawing

theorem OutboundSound.openContext (j : ContextIndex) (t : Tray) (f : InductItem) : OutboundSound (s.openContext j t f) := by
  have hopened : OutboundSound ((s.modContext j (fun _ => openedContext t f s.readyPorts)).setMap t (some j)) :=
    hs.modContext j (f := fun _ => openedContext t f s.readyPorts) (fun h => nomatch h)
  unfold State.openContext
  dsimp only
  split
  · exact hopened.seal j
  · exact hopened

/-- A close finds room for its item result, or its context waits at a full queue (R3, R163). -/
theorem OutboundSound.closeContext (i : ContextIndex) (o : ItemOutcome) (d : Option Delivery) :
    OutboundSound (s.closeContext i o d) := by
  rcases s.closeContext_cases i o d with ⟨hroom, he⟩ | ⟨hfull, he⟩ <;> rw [he]
  · have hfree : OutboundSound ((s.withoutContext i).modContext i (fun _ => {})) :=
      OutboundSound.modContext (s := s.withoutContext i) hs i (fun h => nomatch h)
    exact hfree.joins hroom rfl rfl id
  · exact hs.of_full hfull rfl rfl

/-! ### Totes and orders (chapters 5 and 6) -/

theorem OutboundSound.offerTote (w : WaitingTote) : OutboundSound (s.offerTote w) := by
  rcases s.offerTote_cases w with ⟨hroom, he⟩ | ⟨hfull, he⟩ <;> rw [he]
  · exact hs.joins hroom rfl rfl id
  · exact hs.of_full hfull rfl rfl

theorem OutboundSound.modChute (k : Chute) (f : ChuteRecord → ChuteRecord) : OutboundSound (s.modChute k f) := hs

theorem OutboundSound.modDescriptor (d : DescriptorIndex) (f : Descriptor → Descriptor) :
    OutboundSound (s.modDescriptor d f) := hs

theorem OutboundSound.chuteEvent (k : Chute) (d : ChuteDetail) : OutboundSound (s.chuteEvent k d) := hs.offerEvent _

theorem OutboundSound.enterSwapping (k : Chute) : OutboundSound (s.enterSwapping k) := by
  unfold State.enterSwapping
  split
  · exact hs
  · exact (hs.modChute _ _).offerEvent _

theorem OutboundSound.closeDescriptor (k : Chute) (d : DescriptorIndex) (c : CloseCause) :
    OutboundSound (s.closeDescriptor k d c) := (hs.modDescriptor _ _).offerTote _

theorem OutboundSound.closeTote (k : Chute) (c : CloseCause) : OutboundSound (s.closeTote k c) := by
  unfold State.closeTote
  dsimp only
  split
  · exact hs
  · next d _ =>
    have hclosed := (hs.closeDescriptor k d c).modChute k (fun c => { c with active := none, pendingCause := none })
    split
    · exact hclosed.enterSwapping k
    · exact (hclosed.modChute _ _).offerEvent _

theorem OutboundSound.completeClosing (k : Chute) : OutboundSound (s.completeClosing k) := by
  unfold State.completeClosing
  split
  · split
    · exact hs.closeTote k _
    · exact hs
  · exact hs

theorem OutboundSound.countTest (k : Chute) (d : DescriptorIndex) : OutboundSound (s.countTest k d) := by
  unfold State.countTest
  split
  · split
    · exact hs.closeTote k _
    · exact hs.closeTote k _
    · exact hs
  · exact hs

theorem OutboundSound.callClose (k : Chute) (c : CloseCause) : OutboundSound (s.callClose k c) := by
  unfold State.callClose
  split
  · exact hs.closeTote k c
  · exact (hs.modChute _ _).offerEvent _

theorem OutboundSound.clearChain (k : Chute) : OutboundSound (s.clearChain k) := by
  have hcleared : OutboundSound (s.toteCleared k) := by
    cases h : (s.chute k).active with
    | none => exact (s.toteCleared_none k h).symm ▸ hs
    | some d => exact (s.toteCleared_some k h).symm ▸ hs.closeDescriptor k d .cleared
  have hfreed : OutboundSound (s.chainCleared k) := by
    unfold State.chainCleared
    rw [State.freeAll_frame]
    exact hcleared
  rw [State.clearChain_eq]
  split
  · exact hfreed
  · exact hfreed.offerEvent _

theorem OutboundSound.toteInPlace (k : Chute) (x : BitVec 16) : OutboundSound (toteInPlace k x s) := by
  unfold Machine.toteInPlace
  split
  · split
    · exact ((hs.modDescriptor _ _).modChute _ _).offerEvent _
    · exact hs.offerEvent _
  · exact hs

theorem OutboundSound.stray (k : Chute) : OutboundSound (s.stray k).1 := by
  unfold State.stray
  split <;> exact hs

theorem OutboundSound.settleRelease (o : DivertOrder) : OutboundSound (s.settleRelease o) := by
  have hreleased : OutboundSound
      ({ s with orders := s.orders.erase o }.modDescriptor o.descriptor (fun D => D.unreserve o.grams)) := hs
  exact hreleased.completeClosing o.chute

theorem OutboundSound.settleCommit (o : DivertOrder) : OutboundSound (s.settleCommit o) := by
  have hcommitted : OutboundSound
      ({ s with orders := s.orders.erase o }.modDescriptor o.descriptor (fun D => D.commit o.grams)) := hs
  exact (hcommitted.countTest o.chute o.descriptor).completeClosing o.chute

/-! ### Transmitters and ports (chapter 7) -/

theorem OutboundSound.sendStation (p : StationPort) (f : StationFrame) : OutboundSound (s.sendStation p f) := by
  rw [State.sendStation_frame]
  exact hs

theorem OutboundSound.sendSorter (f : SorterFrame) : OutboundSound (s.sendSorter f) := by
  rw [State.sendSorter_frame]
  exact hs

theorem OutboundSound.modPort (p : StationPort) (f : PortRecord → PortRecord) : OutboundSound (s.modPort p f) := hs

end Operations

end Sys2Proof.Machine
end

section
/-! Every command and every step keeps the outbound queue and its waiting records sound (R162 to R165). -/

namespace Sys2Proof.Machine

section Commands

variable {s : State} (hs : OutboundSound s)

include hs

/-! ### Station ports (R125 to R141) -/

theorem OutboundSound.portEvent (p : StationPort) (d : PortDetail) : OutboundSound (s.portEvent p d) := hs.offerEvent _

theorem OutboundSound.startProbe (p : StationPort) : OutboundSound (s.startProbe p) := (hs.modPort p _).sendStation p _

/-- A port that was READY or PAUSING is withdrawn (R21, R139). -/
theorem OutboundSound.leaves (P : PortRecord) (p : StationPort) :
    OutboundSound (if P.state = .ready ∨ P.state = .pausing then s.withdraw p else s) := by
  split
  · exact hs.withdraw p
  · exact hs

/-- A pending compound is cancelled with its event (R130). -/
theorem OutboundSound.cancels (P : PortRecord) (p : StationPort) :
    OutboundSound (if P.compound = true then s.portEvent p .compoundCancelled else s) := by
  split
  · exact hs.portEvent p _
  · exact hs

theorem OutboundSound.detach (p : StationPort) : OutboundSound (s.detach p) := by
  have hdetached : OutboundSound ((s.dropStationTx p).modPort p (fun P => { P with
      state := .detached, timer := none, compound := false, faultCause := none, hold := false })) := hs
  unfold State.detach
  dsimp only
  split
  · exact hs
  · exact (hdetached.cancels (s.port p) p).leaves (s.port p) p

theorem OutboundSound.losePortLink (p : StationPort) : OutboundSound (s.losePortLink p) := by
  have hlost := (hs.modPort p (fun P => { P with state := .listening, timer := none, hold := false, compound := false
    })).portEvent p .lost
  unfold State.losePortLink
  dsimp only
  split
  · exact hs
  · exact hs
  · exact hs
  · exact (hlost.cancels (s.port p) p).leaves (s.port p) p

/-- What a Go target's first step does to a port whose state allows it. -/
theorem OutboundSound.goStep {effect : State → StationPort → Option State}
    (h : effect ∈ [State.goListenStep, State.goProbeStep, State.goReadyStep, State.goPauseStep, State.goResumeStep,
      State.goCompoundStep]) {p : StationPort} {t : State} (ht : effect s p = some t) : OutboundSound t := by
  simp only [List.mem_cons, List.not_mem_nil, or_false] at h
  rcases h with rfl | rfl | rfl | rfl | rfl | rfl
  · rw [State.goListenStep_eq] at ht
    cases (Option.ite_none_right_eq_some.mp ht).2
    exact hs
  · rw [State.goProbeStep_eq] at ht
    cases (Option.ite_none_right_eq_some.mp ht).2
    exact hs.startProbe p
  · rw [State.goReadyStep_eq] at ht
    cases (Option.ite_none_right_eq_some.mp ht).2
    exact hs
  · rw [State.goPauseStep_eq] at ht
    cases (Option.ite_none_right_eq_some.mp ht).2
    exact (hs.modPort p _).sendStation p _
  · rw [State.goResumeStep_eq] at ht
    cases (Option.ite_none_right_eq_some.mp ht).2
    exact (hs.modPort p _).sendStation p _
  · unfold State.goCompoundStep at ht
    dsimp only at ht
    split at ht <;> cases ht
    · exact hs
    · exact hs
    · exact hs
    · exact (hs.modPort p _).startProbe p

theorem OutboundSound.goAct {effect : State → StationPort → Option State} (target : Nat) (ps : List Byte)
    (h : effect ∈ [State.goListenStep, State.goProbeStep, State.goReadyStep, State.goPauseStep, State.goResumeStep,
      State.goCompoundStep]) : OutboundSound (goAct target ps effect s).1 := by
  unfold Machine.goAct
  split
  · exact hs
  · split
    · exact hs
    · split
      · next t ht => exact hs.goStep h ht
      · exact hs

theorem OutboundSound.attach (p : StationPort) : OutboundSound (s.attach p) := by
  have hattached := (hs.modPort p (fun P => { P with state := .attached })).portEvent p .attached
  unfold State.attach
  dsimp only
  split
  · exact hattached.startProbe p
  · exact hattached

theorem OutboundSound.stationFrame {t : State} (p : StationPort) (ht : OutboundSound t) :
    OutboundSound (s.stationFrame p t) := by
  unfold State.stationFrame
  split
  · exact hs
  · exact hs.attach p
  · exact ht

theorem OutboundSound.endProbe (p : StationPort) (c : StationClass) (cap : Capability) (d : Bool) :
    OutboundSound (s.endProbe p c cap d) := by
  have hprobed := (hs.modPort p (fun P => { P with
    state := .probed, timer := none, detectedClass := c, capability := cap })).portEvent p (.probed c cap d)
  unfold State.endProbe
  dsimp only
  split
  · exact (hprobed.modPort p _).portEvent p _
  · exact hprobed

theorem OutboundSound.enterFault (p : StationPort) (f : FaultCause) (d : PortDetail) : OutboundSound (s.enterFault p f d) :=
  ((hs.modPort p _).portEvent p d).withdraw p

theorem OutboundSound.endPause (p : StationPort) (d : PortDetail) : OutboundSound (s.endPause p d) :=
  ((hs.modPort p _).portEvent p d).withdraw p

theorem OutboundSound.takeAnnounce (p : StationPort) (cls cap : Byte) : OutboundSound (s.takeAnnounce p cls cap) := by
  unfold State.takeAnnounce
  split
  · split
    · exact hs.endProbe p _ _ _
    · exact hs.enterFault p _ _
  · exact hs

theorem OutboundSound.takeResumeAck (p : StationPort) : OutboundSound (s.takeResumeAck p) := by
  unfold State.takeResumeAck
  split
  · exact (hs.modPort p _).portEvent p _
  · exact hs

theorem OutboundSound.joinQueue (p : StationPort) (r : ObsRecord) : OutboundSound (s.joinQueue p r) := by
  unfold State.joinQueue
  split
  · unfold State.holdTest
    split
    · exact ((hs.modPort p _).modPort p _).sendStation p _
    · exact hs.modPort p _
  · have hover := hs.offerEvent (.queueOverrun p r.tray r.body.kind)
    refine hover.forContext _ fun i => hover.modContext i ?_
    split <;> exact id

/-! ### Records (R12 to R19) -/

theorem OutboundSound.mergeOf (p : StationPort) (b : RecordBody) (i : ContextIndex) : OutboundSound (mergeOf p b s i) := by
  cases b with
  | defect code zone extent =>
    refine hs.modContext i ?_
    rw [Context.mergeDefect_frame]
    exact id
  | tag present mismatch => exact hs.modContext i id
  | weight grams => exact hs.modContext i id
  | itemDone =>
    have hreported : OutboundSound (s.modContext i (fun c => { c with reported := portInsert p c.reported })) :=
      hs.modContext i id
    unfold Machine.mergeOf mergeItemDone
    dsimp only
    split
    · exact hreported.seal i
    · exact hreported

theorem OutboundSound.routeAndMerge (p : StationPort) (r : ObsRecord) :
    OutboundSound (s.routeAndMerge p r (Machine.mergeOf p r.body)) := by
  unfold State.routeAndMerge
  split
  · exact (hs.forContext _ fun i => hs.modContext i id).offerEvent _
  · exact hs.offerEvent _
  · exact hs.mergeOf p r.body _

/-- A row that takes a record of its kind, whatever merge it names for the other kinds. -/
theorem OutboundSound.takeRecord {p : StationPort} {k : RecordKind} {merge : RecordBody → State → ContextIndex → State}
    (hm : ∀ b, b.kind = k → merge b = Machine.mergeOf p b) : OutboundSound (s.takeRecord p k merge) := by
  cases hin : (s.port p).inbound with
  | nil =>
    simp only [State.takeRecord, hin]
    exact hs
  | cons r rest =>
    by_cases hk : r.body.kind = k
    · have hleft : OutboundSound (s.afterLeave p rest) := by
        rw [State.afterLeave_frame]
        exact hs
      rw [State.takeRecord_head s hin hk, State.releaseTest_eq_afterLeave, hm _ hk]
      exact hleft.routeAndMerge p r
    · simp only [State.takeRecord, hin, if_neg hk]
      exact hs

/-! ### Orders and decisions (R76 to R99) -/

theorem OutboundSound.unorder (i : ContextIndex) : OutboundSound (s.unorder i) := by
  refine hs.modContext i ?_
  split
  · exact fun h => nomatch h
  · exact id

theorem OutboundSound.placeOrder (i : ContextIndex) : OutboundSound (s.placeOrder i) := by
  refine hs.modContext i ?_
  split
  · exact fun h => nomatch h
  · exact id

theorem OutboundSound.countLap (i : ContextIndex) : OutboundSound (s.countLap i) := hs.modContext i id

theorem OutboundSound.issueOrder (t : Tray) (k : Chute) (d : DescriptorIndex) (g : Nat) (c : Option ContextIndex) :
    OutboundSound (s.issueOrder t k d g c) := by
  let o : DivertOrder :=
    { tray := t, chute := k, descriptor := d, grams := g, context := c, remaining := s.settings.orderTimeout * 1000 }
  have hreserved : OutboundSound ({ s with orders := s.orders ++ [o] }.modDescriptor d (fun D => D.reserve g)) := hs
  exact (hreserved.sendSorter _).forContext c (hreserved.sendSorter _).placeOrder

theorem OutboundSound.recirculate (t : Tray) (c : Option ContextIndex) : OutboundSound (s.recirculate t c) :=
  (hs.sendSorter _).forContext c (hs.sendSorter _).countLap

theorem OutboundSound.tryException (t : Tray) (g : Nat) (c : Option ContextIndex) : OutboundSound (s.tryException t g c) := by
  unfold State.tryException
  dsimp only
  split
  · exact hs.issueOrder t _ _ g c
  · exact (hs.recirculate t c).offerEvent _

theorem OutboundSound.tryTarget (t : Tray) (i : ContextIndex) : OutboundSound (s.tryTarget t i) := by
  unfold State.tryTarget
  dsimp only
  split
  · exact hs.issueOrder t _ _ _ _
  · exact hs.recirculate t _

theorem OutboundSound.impliedMiss (t : Tray) : OutboundSound (s.impliedMiss t) := by
  unfold State.impliedMiss
  split
  · exact hs
  · next o _ =>
    have hmissed := (hs.settleRelease o).offerEvent (.impliedMiss t o.chute)
    exact hmissed.forContext o.context hmissed.unorder

theorem OutboundSound.answerRequest (t : Tray) : OutboundSound (s.answerRequest t) := by
  unfold State.answerRequest
  split
  · exact hs.tryException t _ none
  · next i _ =>
    split
    · exact (hs.seal i).recirculate t _
    · split
      · exact hs.tryTarget t i
      · have hrouted : OutboundSound (s.modContext i (fun c => { c with exceptionRoute := true })) := hs.modContext i id
        exact hrouted.tryException t _ _
    · exact hs.recirculate t _

theorem OutboundSound.sorterFrame {t : State} (ht : OutboundSound t) : OutboundSound (s.sorterFrame t) := by
  rcases s.sorterFrame_cases t with ⟨_, he⟩ | ⟨_, he⟩ <;> rw [he]
  · exact ht
  · exact hs

theorem OutboundSound.closeDiverted (i : ContextIndex) (d : Delivery) : OutboundSound (s.closeDiverted i d) := by
  unfold State.closeDiverted
  split
  · exact hs.closeContext i _ _
  · exact hs

theorem OutboundSound.closeMisdelivered (i : ContextIndex) (d : Delivery) : OutboundSound (s.closeMisdelivered i d) := by
  unfold State.closeMisdelivered
  split
  · exact hs.closeContext i _ _
  · exact hs.closeContext i _ _
  · exact hs.closeContext i _ _
  · exact hs

theorem OutboundSound.deliver (t : Tray) (k : Chute) (o : DivertOrder) : OutboundSound (s.deliver t k o) := by
  unfold State.deliver
  dsimp only
  split
  · exact (hs.settleCommit o).closeDiverted _ _
  · exact (hs.settleCommit o).offerEvent _

theorem OutboundSound.deliverElsewhere (t : Tray) (k : Chute) (o : DivertOrder) :
    OutboundSound (s.deliverElsewhere t k o) := by
  have hstray := (hs.settleRelease o).stray k
  exact (hstray.forContext o.context fun i => hstray.closeMisdelivered i _).offerEvent _

theorem OutboundSound.deliverUnordered (t : Tray) (k : Chute) : OutboundSound (s.deliverUnordered t k) := by
  have hstray := (hs.stray k).offerEvent (.strayDivert t k none)
  unfold State.deliverUnordered
  dsimp only
  split
  · exact hstray
  · split
    · exact hstray.closeMisdelivered _ _
    · exact hstray.closeMisdelivered _ _
    · exact hstray.offerEvent _
    · exact hstray.offerEvent _
    · exact hstray

theorem OutboundSound.missOrder (o : DivertOrder) : OutboundSound (s.missOrder o) :=
  (hs.settleRelease o).forContext o.context fun i => ((hs.settleRelease o).unorder i).countLap i

theorem OutboundSound.cancelOrder (i : ContextIndex) : OutboundSound (s.cancelOrder i) := by
  unfold State.cancelOrder
  split
  · exact (hs.settleRelease _).unorder i
  · exact hs.unorder i

theorem OutboundSound.induct (t : Tray) (f : InductItem) : OutboundSound (induct t f s) := by
  unfold Machine.induct
  split
  · exact hs.offerEvent _
  · split
    · split
      · exact hs.offerEvent _
      · exact hs.openContext _ t f
    · split
      · exact hs.offerEvent _
      · split
        · exact hs.offerEvent _
        · exact (hs.closeContext _ _ _).openContext _ t f

/-! ### Management commands and gradings -/

theorem OutboundSound.writeTable (w : TableChange) : OutboundSound (s.writeTable w) := by
  rw [State.writeTable_frame]
  exact hs

theorem OutboundSound.writeAct (change : Option TableChange) : OutboundSound (writeAct change s).1 := by
  unfold Machine.writeAct
  split
  · exact hs
  · split
    · exact hs.writeTable _
    · exact hs

theorem OutboundSound.abandonTrayAct (ps : List Byte) : OutboundSound (abandonTrayAct ps s).1 := by
  unfold Machine.abandonTrayAct
  split
  · exact hs
  · dsimp only
    split
    · exact hs
    · next i _ =>
      split
      · exact hs.modContext i id
      · exact (hs.cancelOrder i).closeContext i _ _
      · exact hs.closeContext i _ _

theorem OutboundSound.chainLoadAct (ps : List Byte) : OutboundSound (chainLoadAct ps s).1 := by
  unfold Machine.chainLoadAct
  split
  · exact hs
  · next k es _ =>
    split
    · exact hs
    · have hloaded : ∀ ds : List DescriptorIndex, OutboundSound
          (((s.fillDescriptors (ds.zip es)).linkLast (s.chute k).lastOfSequence ds.head?).modChute k
            (fun c => { c with chain := c.chain ++ ds })) := fun ds => by
        rw [State.linkLast_frame, State.fillDescriptors_frame]
        exact hs
      dsimp only
      split
      · exact (hloaded _).enterSwapping k
      · exact (hloaded _).enterSwapping k
      · exact hloaded _

theorem OutboundSound.controlAct {effect : State → Chute → Option State} (action : Nat) (ps : List Byte)
    (h : ∀ k t, effect s k = some t → OutboundSound t) : OutboundSound (controlAct action ps effect s).1 := by
  unfold Machine.controlAct
  split
  · exact hs
  · split
    · next t ht => exact h _ t ht
    · exact hs

theorem OutboundSound.takeWrite : OutboundSound s.takeWrite := by
  unfold State.takeWrite
  split
  · exact (hs.writeTable _).finish _ _ _ _ _
  · exact hs

theorem OutboundSound.handOver : OutboundSound s.handOver := by
  unfold State.handOver
  split
  · split
    · exact hs.takeWrite
    · exact hs
  · exact hs.startGrading

theorem OutboundSound.completeContext (i : ContextIndex) (classes : Vector StationClass 8) :
    OutboundSound (s.completeContext i classes) := by
  have hclosed := hs.closeContext i .abandoned none
  unfold State.completeContext
  dsimp only
  split
  · split
    · split
      · exact hclosed.finish _ _ _ _ _
      · exact hclosed
    · exact hclosed
  · exact hs.modContext i (f := s.gradedContext classes) fun h => nomatch h

/-- An effect that asks for a condition, and changes nothing without it. -/
theorem OutboundSound.ite {t : State} {c : Prop} [Decidable c] (ht : OutboundSound t) :
    OutboundSound (if c then t else s) := by
  split
  · exact ht
  · exact hs

/-! ### Every command and every step -/

/-- Every command answers a sound state of a sound one. -/
theorem OutboundSound.exec : ∀ c : Instr, ∃ t, exec c s = .next t ∧ OutboundSound t
  | .induct t f => ⟨_, rfl, hs.induct t f⟩
  | .configure g ps => ⟨_, rfl, hs.runCommand g _ ps fun _ => by
      unfold configureAct
      split <;> exact hs⟩
  | .portConfig g ps => ⟨_, rfl, hs.runCommand g _ ps fun _ => by
      unfold portConfigAct
      split
      · exact hs
      · split <;> exact hs⟩
  | .goDetach g ps => ⟨_, rfl, hs.runCommand g _ ps fun _ => by
      unfold goDetachAct
      split
      · exact hs
      · exact hs.detach _⟩
  | .goListen g ps => ⟨_, rfl, hs.runCommand g _ ps fun _ => hs.goAct 1 ps (by simp)⟩
  | .goProbe g ps => ⟨_, rfl, hs.runCommand g _ ps fun _ => hs.goAct 2 ps (by simp)⟩
  | .goReady g ps => ⟨_, rfl, hs.runCommand g _ ps fun _ => hs.goAct 3 ps (by simp)⟩
  | .goPause g ps => ⟨_, rfl, hs.runCommand g _ ps fun _ => hs.goAct 4 ps (by simp)⟩
  | .goResume g ps => ⟨_, rfl, hs.runCommand g _ ps fun _ => hs.goAct 5 ps (by simp)⟩
  | .goListenToReady g ps => ⟨_, rfl, hs.runCommand g _ ps fun _ => hs.goAct 6 ps (by simp)⟩
  | .writeWeights g ps => ⟨_, rfl, hs.runCommand g _ ps fun _ => hs.writeAct _⟩
  | .writeProfile g ps => ⟨_, rfl, hs.runCommand g _ ps fun _ => hs.writeAct _⟩
  | .writeReasons g ps => ⟨_, rfl, hs.runCommand g _ ps fun _ => hs.writeAct _⟩
  | .writeWindow g ps => ⟨_, rfl, hs.runCommand g _ ps fun _ => hs.writeAct _⟩
  | .writeDefault g ps => ⟨_, rfl, hs.runCommand g _ ps fun _ => hs.writeAct _⟩
  | .tableWrite => ⟨_, rfl, hs.ite hs.takeWrite.startGrading⟩
  | .chainLoad g ps => ⟨_, rfl, hs.runCommand g _ ps fun _ => hs.chainLoadAct ps⟩
  | .chainClear g ps => ⟨_, rfl, hs.runCommand g _ ps fun _ => by
      unfold chainClearAct
      split
      · exact hs
      · split
        · exact hs.clearChain _
        · exact hs⟩
  | .enable g ps => ⟨_, rfl, hs.runCommand g _ ps fun _ => hs.controlAct 0 ps fun k t h => by
      cases h
      exact hs.modChute k _⟩
  | .disable g ps => ⟨_, rfl, hs.runCommand g _ ps fun _ => hs.controlAct 1 ps fun k t h => by
      cases h
      exact hs.modChute k _⟩
  | .closeNow g ps => ⟨_, rfl, hs.runCommand g _ ps fun _ => hs.controlAct 2 ps fun k t h => by
      cases (Option.ite_none_right_eq_some.mp h).2
      exact hs.callClose k _⟩
  | .advance g ps => ⟨_, rfl, hs.runCommand g _ ps fun _ => hs.controlAct 3 ps fun k t h => by
      cases (Option.ite_none_right_eq_some.mp h).2
      exact hs.enterSwapping k⟩
  | .abandonTray g ps => ⟨_, rfl, hs.runCommand g _ ps fun _ => hs.abandonTrayAct ps⟩
  | .readContext g ps => ⟨_, rfl, hs.runCommand g _ ps fun _ => (readContextAct_state ps s).symm ▸ hs⟩
  | .readChute g ps => ⟨_, rfl, hs.runCommand g _ ps fun _ => (readChuteAct_state ps s).symm ▸ hs⟩
  | .readTable g ps => ⟨_, rfl, hs.runCommand g _ ps fun _ => (readTableAct_state ps s).symm ▸ hs⟩
  | .readStatus g ps => ⟨_, rfl, hs.runCommand g _ ps fun _ => (readStatusAct_state ps s).symm ▸ hs⟩
  | .eventRoute g ps => ⟨_, rfl, hs.runCommand g _ ps fun _ => by
      unfold eventRouteAct
      split <;> exact hs⟩
  | .ackAttention g ps => ⟨_, rfl, hs.runCommand g _ ps fun _ => by
      unfold ackAttentionAct
      split <;> exact hs⟩
  | .softReset g ps => ⟨_, rfl, hs.runCommand g _ ps fun hc => by
      unfold softResetAct
      split
      · exact .softReset hc
      · exact hs⟩
  | .badCommand g code ps => ⟨_, rfl, hs.runCommand g code ps fun _ => hs⟩
  | .obsDefect p _ _ _ _ => ⟨_, rfl, hs.stationFrame p (hs.joinQueue p _)⟩
  | .obsTag p _ _ _ => ⟨_, rfl, hs.stationFrame p (hs.joinQueue p _)⟩
  | .obsWeight p _ _ => ⟨_, rfl, hs.stationFrame p (hs.joinQueue p _)⟩
  | .itemDone p _ => ⟨_, rfl, hs.stationFrame p (hs.joinQueue p _)⟩
  | .announce p cls cap => ⟨_, rfl, hs.stationFrame p (hs.takeAnnounce p cls cap)⟩
  | .pauseAck p => ⟨_, rfl, hs.stationFrame p (hs.ite (hs.endPause p _))⟩
  | .resumeAck p => ⟨_, rfl, hs.stationFrame p (hs.takeResumeAck p)⟩
  | .idle p => ⟨_, rfl, hs.stationFrame p hs⟩
  | .frameRejected port bytes => ⟨_, rfl, by
      split
      · exact hs.ite (hs.offerEvent _)
      · exact hs⟩
  | .probeWindowExpiry p => ⟨_, rfl, hs.ite (hs.endProbe p _ _ _)⟩
  | .pauseTimeout p => ⟨_, rfl, hs.ite (hs.endPause p _)⟩
  | .resumeTimeout p => ⟨_, rfl, hs.ite (hs.enterFault p _ _)⟩
  | .takeDefectRecord p => ⟨_, rfl, hs.takeRecord fun b h => by cases b <;> cases h; rfl⟩
  | .takeTagRecord p => ⟨_, rfl, hs.takeRecord fun b h => by cases b <;> cases h; rfl⟩
  | .takeWeightRecord p => ⟨_, rfl, hs.takeRecord fun b h => by cases b <;> cases h; rfl⟩
  | .takeItemDoneRecord p => ⟨_, rfl, hs.takeRecord fun b h => by cases b <;> cases h; rfl⟩
  | .gradingStart => ⟨_, rfl, hs.startGrading⟩
  | .gradingCompletion => ⟨_, rfl, by
      split
      · exact hs
      · next g _ =>
        have hidle : OutboundSound { s with inFlight := none } := hs
        exact (hidle.completeContext g.context g.classes).handOver⟩
  | .decisionReq t => ⟨_, rfl, hs.sorterFrame ((hs.impliedMiss t).answerRequest t)⟩
  | .divertDone t k => ⟨_, rfl, hs.sorterFrame (by
      split
      · exact hs.deliver t k _
      · split
        · exact hs.deliverElsewhere t k _
        · exact hs.deliverUnordered t k)⟩
  | .divertMissed t k => ⟨_, rfl, hs.sorterFrame (by
      split
      · exact hs.missOrder _
      · exact hs.offerEvent _)⟩
  | .orderExpiry t k => ⟨_, rfl, by
      split
      · exact (hs.missOrder _).offerEvent _
      · exact hs⟩
  | .toteFull k => ⟨_, rfl, hs.sorterFrame ((hs.chuteEvent k _).ite (hs.callClose k _))⟩
  | .toteInPlace k x => ⟨_, rfl, hs.sorterFrame (hs.toteInPlace k x)⟩
  | .chuteJam k => ⟨_, rfl, hs.sorterFrame ((hs.modChute k _).chuteEvent k _)⟩
  | .chuteClear k => ⟨_, rfl, hs.sorterFrame ((hs.modChute k _).chuteEvent k _)⟩
  | .entrySent => ⟨_, rfl, by
      split
      · next h => exact hs.entrySent h
      · exact hs⟩
  | .portFrameSent port => ⟨_, rfl, by cases port <;> exact hs⟩
  | .linkUp port => ⟨_, rfl, by cases port <;> exact hs⟩
  | .linkDown port => ⟨_, rfl, by
      cases port with
      | station p =>
        have hdown : OutboundSound { s with
          stationLinks := s.stationLinks.set p .down, stationTx := s.stationTx.set p [] } := hs
        exact hdown.losePortLink p
      | line => exact hs
      | sorter => exact hs⟩
  | .powerOnReset => ⟨_, rfl, powerOnResetIsSound.1⟩

end Commands

/-- Settles O54: the step is the command at the front of the queue, a running out, or a millisecond. -/
theorem stepKeepsOutboundSound : Obligations.StepKeepsOutboundSound := by
  intro s t hs ht
  have hexec : ∀ c u, OutboundSound u → exec c u = .next t → OutboundSound t := by
    intro c u hu hc
    obtain ⟨v, hv, hsound⟩ := hu.exec c
    rw [hv] at hc
    cases hc
    exact hsound
  unfold step at ht
  split at ht
  · split at ht
    · exact hexec _ s hs ht
    · cases ht
      exact hs
  · next c rest _ => exact hexec c { s with pending := rest } hs ht

end Sys2Proof.Machine
end

section
/-! CONFIGURE: the clamps, the record they give, and its bytes as they are returned (R172, R173). -/

namespace Sys2Proof.Machine

/-! ### The clamps of CONFIGURE (R172, R173) -/

theorem clampTo_eq_ite {lo hi : Nat} (h : lo ≤ hi) (x : Nat) :
    clampTo lo hi x = if x < lo then lo else if hi < x then hi else x := by
  unfold clampTo
  split
  · omega
  · split <;> omega

/-- A field whose least value is 1 is raised from 0 alone. -/
theorem clampTo_one_eq_ite {hi : Nat} (h : 1 ≤ hi) (x : Nat) :
    clampTo 1 hi x = if x = 0 then 1 else if hi < x then hi else x := by
  simp only [clampTo_eq_ite h, Nat.lt_one_iff]

/-- A field whose least value is 0 is lowered alone. -/
theorem clampTo_zero_eq_ite (hi x : Nat) : clampTo 0 hi x = if hi < x then hi else x := by
  simp only [clampTo_eq_ite (Nat.zero_le hi), Nat.not_lt_zero, if_false]

/-! ### The record and its bytes (R173) -/

/-- A flag read from a byte is sent as that byte (R148). -/
theorem flagByte_eq {b : Byte} {f : Bool} (h : b.toNat = f.toNat) : flagByte f = b := by
  refine BitVec.eq_of_toNat_eq (Eq.trans ?_ h.symm)
  cases f <;> rfl

section Configure

variable {lap chute time wHi wLo hold zone extent lock : Byte} {k : Chute} {l : Bool}

/-- With a chute and a lock flag the nine bytes give the whole record, every number clamped. -/
theorem parseConfigure_eq (hk : chute.toNat = k.val) (hl : lock.toNat = l.toNat) :
    parseConfigure [lap, chute, time, wHi, wLo, hold, zone, extent, lock] = some {
      lapLimit := clampTo 1 7 lap.toNat, exceptionChute := k, orderTimeout := clampTo 1 15 time.toNat,
      defaultWeight := clampTo 1 Config.gramsMax (be16 wHi wLo).toNat, holdThreshold := clampTo 4 15 hold.toNat,
      basicZone := clampTo 0 2 zone.toNat, basicExtent := clampTo 1 4 extent.toNat, lock := l } := by
  have hchute : indexOf 32 chute = some k := indexOf_eq_some.mpr hk
  have hlock : flagOf lock = some l := flagOf_eq_some.mpr hl
  simp only [parseConfigure, hchute, hlock, Option.bind_eq_bind, Option.bind_some, Option.pure_def]

/-- The settings record is returned with its chute and its lock flag as the bytes that gave them. -/
theorem Settings.bytes_eq {g : Settings} (hk : chute.toNat = g.exceptionChute.val) (hl : lock.toNat = g.lock.toNat) :
    g.bytes = [byteOf g.lapLimit, chute, byteOf g.orderTimeout, byteOf (g.defaultWeight / 256), byteOf g.defaultWeight,
      byteOf g.holdThreshold, byteOf g.basicZone, byteOf g.basicExtent, lock] := by
  rw [Settings.bytes, byteOf_eq hk, flagByte_eq hl]
  rfl

end Configure

/-- A CONFIGURE whose bytes give a record writes it whole and returns its bytes (R173). -/
theorem exec_configure_written {s : State} {params : List Byte} {g : Settings} (hs : s.command = none)
    (hp : parseConfigure params = some g) (tag : Byte) :
    exec (.configure tag params) s = .next ({ s with settings := g }.finish tag 0x01 params .ok g.bytes) :=
  congrArg Host.Outcome.next (State.runCommand_done hs (by simp only [configureAct, hp]))

/-- Settles O44: the refusal is the one of O6, and the record that the bytes give has the values of R173's table. -/
theorem configureClampsAndWritesAllSettings : Obligations.ConfigureClampsAndWritesAllSettings := by
  intro s tag lap chute time wHi wLo hold zone extent lock hs params
  refine ⟨fun h => ?refused, fun k l lapLimit orderTimeout defaultWeight holdThreshold basicZone basicExtent hk hl hlap htime
    hweight hhold hzone hextent => ?written⟩
  case refused =>
    obtain ⟨-, hconfigure, -⟩ := malformedCommandIsRefused s tag params hs
    exact hconfigure (.inr (.inl h))
  case written =>
    rw [← clampTo_one_eq_ite (by decide)] at hlap htime hextent
    rw [← clampTo_one_eq_ite (hi := 20000) (by decide)] at hweight
    rw [← clampTo_eq_ite (by decide)] at hhold
    rw [← clampTo_zero_eq_ite] at hzone
    subst hlap htime hweight hhold hzone hextent
    exact (exec_configure_written hs (parseConfigure_eq hk hl) tag).trans
      (congrArg (fun payload => Host.Outcome.next (State.finish _ tag 0x01 params .ok payload)) (Settings.bytes_eq hk hl))

end Sys2Proof.Machine
end

section
/-! One step of the block with a command waiting. -/

namespace Sys2Proof.Machine

/-- Settles O1: with a command at the front of the queue, `step` is in its second case. -/
theorem stepRunsFrontCommand : Obligations.StepRunsFrontCommand := by
  intro c rest s hpending
  simp only [step, hpending]

end Sys2Proof.Machine
end

section
/-! With no command waiting: the running out that a step takes, and the millisecond that passes (R96, R126). -/

namespace Sys2Proof.Machine

/-! ### The running out that a step takes (R96, R126) -/

/-- The first answer along the indices is that of the lowest index that has one. -/
theorem findSome?_finRange {α : Type} {n : Nat} {f : Fin n → Option α} {p : Fin n} {a : α} (hp : f p = some a)
    (hlow : ∀ q, q < p → f q = none) : (List.finRange n).findSome? f = some a := by
  have hsome : ((List.finRange n).findSome? f).isSome := by
    rw [List.findSome?_isSome_iff]
    exact ⟨p, List.mem_finRange p, by rw [hp]; rfl⟩
  obtain ⟨b, hb⟩ := Option.isSome_iff_exists.mp hsome
  obtain ⟨pre, q, post, hsplit, hq, hpre⟩ := List.findSome?_eq_some_iff.mp hb
  have hsorted := List.pairwise_lt_finRange n
  have hmem := List.mem_finRange p
  rw [hsplit] at hsorted hmem
  rcases List.mem_append.mp hmem with h | h
  · exact absurd (hpre p h) (by simp [hp])
  rcases List.mem_cons.mp h with rfl | h
  · rw [hb, ← hq, hp]
  · have hlt := (List.pairwise_cons.mp (List.pairwise_append.mp hsorted).2.1).1 p h
    exact absurd (hlow q hlt) (by simp [hq])

/-- The timer of port p has run out in a state that waits on it (R126). -/
def State.portOut (s : State) (p : StationPort) : Prop := (s.port p).timer = some 0 ∧
  ((s.port p).state = .probing ∨ (s.port p).state = .pausing ∨ (s.port p).state = .resuming)

theorem State.due_eq_none_of_not_portOut {s : State} {p : StationPort} (h : ¬ s.portOut p) : (s.port p).due p = none := by
  refine Option.eq_none_iff_forall_ne_some.mpr fun c hc => h ?_
  obtain ⟨htimer, hstate⟩ := PortRecord.due_eq_some.mp hc
  exact ⟨htimer, hstate.imp And.left (Or.imp And.left And.left)⟩

section Due

variable {s : State} (hs : s.pending = [])

include hs

theorem step_due {c : Instr} (h : s.due = some c) : step s = exec c s := by
  simp only [step, hs, h]

theorem step_tick (h : s.due = none) : step s = .next s.tick := by
  simp only [step, hs, h]

/-- The lowest port whose timer has run out goes first. -/
theorem step_portOut {p : StationPort} {c : Instr} (hp : (s.port p).due p = some c) (hlow : ∀ q, q < p → ¬ s.portOut q) :
    step s = exec c s := by
  refine step_due hs ?_
  simp only [State.due, findSome?_finRange (f := fun q => (s.port q).due q) hp
    fun q hq => State.due_eq_none_of_not_portOut (hlow q hq)]

end Due

/-- With no port's timer out, the first order with no time left is due. -/
theorem State.due_of_noPortOut {s : State} (h : ∀ p, ¬ s.portOut p) :
    s.due = (s.orders.find? (fun o => o.remaining = 0)).map (fun o => .orderExpiry o.tray o.chute) := by
  have hports : (List.finRange 8).findSome? (fun p => (s.port p).due p) = none :=
    List.findSome?_eq_none_iff.mpr fun p _ => State.due_eq_none_of_not_portOut (h p)
  simp only [State.due, hports]

/-- Settles O2: the ports' timers first, then the orders, else a millisecond. -/
theorem emptyQueuePassesOneMillisecond : Obligations.EmptyQueuePassesOneMillisecond := by
  intro s hs
  refine ⟨fun p hp hlow => ?port, fun hout => ⟨fun pre o post horders ho hpre => ?order, fun hleft => ?tick⟩⟩
  case port =>
    obtain ⟨htimer, -⟩ := hp
    exact ⟨fun h => step_portOut hs (PortRecord.due_eq_some.mpr ⟨htimer, .inl ⟨h, rfl⟩⟩) hlow,
      fun h => step_portOut hs (PortRecord.due_eq_some.mpr ⟨htimer, .inr (.inl ⟨h, rfl⟩)⟩) hlow,
      fun h => step_portOut hs (PortRecord.due_eq_some.mpr ⟨htimer, .inr (.inr ⟨h, rfl⟩)⟩) hlow⟩
  case order =>
    have hfind : s.orders.find? (fun o => o.remaining = 0) = some o :=
      List.find?_eq_some_iff_append.mpr ⟨by simpa using ho, pre, post, horders, fun x hx => by simpa using hpre x hx⟩
    refine step_due hs ?_
    rw [State.due_of_noPortOut hout, hfind]
    rfl
  case tick =>
    have hfind : s.orders.find? (fun o => o.remaining = 0) = none :=
      List.find?_eq_none.mpr fun o ho => by simpa using hleft o ho
    have hnone : s.due = none := by
      rw [State.due_of_noPortOut hout, hfind]
      rfl
    exact ⟨s.tick.ports, step_tick hs hnone, fun p => vecMap_getElem ..⟩

end Sys2Proof.Machine
end

section
/-! What the station ports, the sorter port and the links do with frames (R101, R143, R146, R147, R150, R152, R153). -/

namespace Sys2Proof.Machine

/-! ### Transmitters (R152) -/

theorem State.sendStation_waits {s : State} {p : StationPort} (hup : s.link (.station p) = .up) (hroom : s.stationTx[p].length < 8)
    (f : StationFrame) : s.sendStation p f = { s with stationTx := s.stationTx.set p (s.stationTx[p] ++ [f]) } :=
  if_pos (Bool.and_eq_true_iff.mpr ⟨decide_eq_true hup, decide_eq_true hroom⟩)

theorem State.sendStation_lost {s : State} {p : StationPort} (h : s.link (.station p) = .down ∨ 8 ≤ s.stationTx[p].length)
    (f : StationFrame) : s.sendStation p f = s := by
  refine if_neg fun hboth => ?_
  obtain ⟨hup, hroom⟩ := Bool.and_eq_true_iff.mp hboth
  rcases h with hdown | hfull
  · exact absurd (hdown.symm.trans (of_decide_eq_true hup)) (by decide)
  · exact Nat.not_lt.mpr hfull (of_decide_eq_true hroom)

theorem State.sendSorter_waits {s : State} (hup : s.sorterLink = .up) (hroom : s.sorterTx.length < 64) (f : SorterFrame) :
    s.sendSorter f = { s with sorterTx := s.sorterTx ++ [f] } :=
  if_pos (Bool.and_eq_true_iff.mpr ⟨decide_eq_true hup, decide_eq_true hroom⟩)

theorem State.sendSorter_lost {s : State} (h : s.sorterLink = .down ∨ 64 ≤ s.sorterTx.length) (f : SorterFrame) :
    s.sendSorter f = s := by
  refine if_neg fun hboth => ?_
  obtain ⟨hup, hroom⟩ := Bool.and_eq_true_iff.mp hboth
  rcases h with hdown | hfull
  · exact absurd (hdown.symm.trans (of_decide_eq_true hup)) (by decide)
  · exact Nat.not_lt.mpr hfull (of_decide_eq_true hroom)

/-! ### Frames of the sorter (R101, R150) -/

theorem State.sorterFrame_down {s : State} (hdown : s.sorterLink = .down) (taken : State) : s.sorterFrame taken = s :=
  if_neg (by simp [hdown])

/-- The rows that a frame of the sorter brings. -/
def sorterRows (t : Tray) (k : Chute) (x : BitVec 16) : List Instr :=
  [.decisionReq t, .divertDone t k, .divertMissed t k, .toteFull k, .toteInPlace k x, .chuteJam k, .chuteClear k]

theorem exec_sorterRow_down {s : State} (hdown : s.sorterLink = .down) {t : Tray} {k : Chute} {x : BitVec 16} {c : Instr}
    (hc : c ∈ sorterRows t k x) : exec c s = .next s := by
  simp only [sorterRows, List.mem_cons, List.not_mem_nil, or_false] at hc
  rcases hc with rfl | rfl | rfl | rfl | rfl | rfl | rfl <;> exact congrArg _ (State.sorterFrame_down hdown _)

/-- Settles O51: the transmitters by link and room, the rows of the links, and the frames by their layouts. -/
theorem portsTransmitWhileLinksAreUp : Obligations.PortsTransmitWhileLinksAreUp := by
  intro s
  refine ⟨fun p f => ⟨fun hup hroom => State.sendStation_waits hup hroom f, fun h => State.sendStation_lost h f⟩,
    fun f => ⟨fun hup hroom => State.sendSorter_waits hup hroom f, fun h => State.sendSorter_lost h f⟩,
    fun p f rest h => ?stationSent, fun f rest h => ?sorterSent, fun _ => rfl, rfl, rfl, rfl, rfl,
    fun hdown t k x c hc => exec_sorterRow_down hdown hc, fun t k => ?frames⟩
  case stationSent =>
    show Host.Outcome.next { s with stationTx := s.stationTx.set p s.stationTx[p].tail } = _
    rw [h]
    rfl
  case sorterSent =>
    show Host.Outcome.next { s with sorterTx := s.sorterTx.tail } = _
    rw [h]
    rfl
  case frames =>
    exact ⟨frameBytes_isFrame _ _ _, frameBytes_isFrame _ _ _, frameBytes_isFrame _ _ _, frameBytes_isFrame _ _ _,
      frameBytes_isFrame _ _ _, frameBytes_isFrame _ _ _, frameBytes_isFrame _ _ _⟩

end Sys2Proof.Machine
end

section
/-! Settled orders, decision requests for graded and untracked trays, and divert reports (R76 to R96, R110 to R116, R123). -/

namespace Sys2Proof.Machine

/-! ### The order that a report names (R77, R90) -/

/-- The one entry of a list that passes a test is the one found. -/
theorem find?_eq_some_of_unique {α : Type} {l : List α} {p : α → Bool} {a : α} (ha : a ∈ l) (hp : p a = true)
    (huniq : ∀ b ∈ l, p b = true → b = a) : l.find? p = some a := by
  cases hf : l.find? p with
  | none => exact absurd hp (List.find?_eq_none.mp hf a ha)
  | some b => rw [huniq b (List.mem_of_find?_eq_some hf) (List.find?_some hf)]

/-- In a list whose images are distinct, equal images are those of one entry. -/
theorem eq_of_mem_of_nodup_map {α β : Type} {f : α → β} {l : List α} (hl : (l.map f).Nodup) {a b : α} (ha : a ∈ l) (hb : b ∈ l)
    (h : f a = f b) : a = b := by
  induction l with
  | nil => cases ha
  | cons x l ih =>
    obtain ⟨hx, hrest⟩ := List.nodup_cons.mp hl
    have himage : ∀ c ∈ l, f c ≠ f x := fun c hc he => hx (he ▸ List.mem_map_of_mem hc)
    rcases List.mem_cons.mp ha with rfl | ha' <;> rcases List.mem_cons.mp hb with rfl | hb'
    · rfl
    · exact absurd h.symm (himage b hb')
    · exact absurd h (himage a ha')
    · exact ih hrest ha' hb'

/-- An entry of a list whose images are distinct is in it once. -/
theorem not_mem_erase_of_nodup_map {α β : Type} [DecidableEq α] {f : α → β} {l : List α} (hl : (l.map f).Nodup) (a : α) :
    a ∉ l.erase a := by
  have hnodup : l.Nodup := (List.pairwise_map.mp hl).imp fun hne he => hne (congrArg f he)
  exact hnodup.not_mem_erase

section Listed

variable {s : State} {o : DivertOrder} (hone : (s.orders.map DivertOrder.tray).Nodup) (ho : o ∈ s.orders)

include hone ho

theorem eq_of_tray_eq {o' : DivertOrder} (ho' : o' ∈ s.orders) (h : o'.tray = o.tray) : o' = o :=
  eq_of_mem_of_nodup_map hone ho' ho h

theorem State.orderFor_tray : s.orderFor o.tray = some o :=
  find?_eq_some_of_unique ho (decide_eq_true rfl) fun _ ho' h => eq_of_tray_eq hone ho ho' (of_decide_eq_true h)

theorem State.orderAt_tray_chute : s.orderAt o.tray o.chute = some o :=
  find?_eq_some_of_unique ho (decide_eq_true ⟨rfl, rfl⟩) fun _ ho' h => eq_of_tray_eq hone ho ho' (of_decide_eq_true h).1

theorem State.orderAt_otherChute {k : Chute} (hk : k ≠ o.chute) : s.orderAt o.tray k = none :=
  List.find?_eq_none.mpr fun o' ho' h => by
    obtain ⟨htray, hchute⟩ := of_decide_eq_true h
    exact hk (hchute ▸ congrArg DivertOrder.chute (eq_of_tray_eq hone ho ho' htray))

theorem State.expiredOrder_tray_chute (hr : o.remaining = 0) : s.expiredOrder o.tray o.chute = some o :=
  find?_eq_some_of_unique ho (decide_eq_true ⟨rfl, rfl, hr⟩) fun _ ho' h =>
    eq_of_tray_eq hone ho ho' (of_decide_eq_true h).1

/-- A settled order leaves none for its tray. -/
theorem tray_ne_of_mem_erase {o' : DivertOrder} (ho' : o' ∈ s.orders.erase o) : o'.tray ≠ o.tray := fun h =>
  not_mem_erase_of_nodup_map hone o (eq_of_tray_eq hone ho (List.mem_of_mem_erase ho') h ▸ ho')

end Listed

theorem State.orderFor_eq_none {s : State} {t : Tray} (h : ∀ o ∈ s.orders, o.tray ≠ t) : s.orderFor t = none :=
  List.find?_eq_none.mpr fun o ho => by simpa using h o ho

theorem State.orderAt_eq_none {s : State} {t : Tray} {k : Chute} (h : ∀ o ∈ s.orders, o.tray = t → o.chute ≠ k) :
    s.orderAt t k = none := List.find?_eq_none.mpr fun o ho => by simpa using h o ho

/-! ### What settles an order (R78, R111 to R113, R116) -/

theorem State.closeTote_noTote {s : State} {k : Chute} (h : (s.chute k).active = none) (cause : CloseCause) :
    s.closeTote k cause = s := by simp only [State.closeTote, h]

/-- A chute whose tote closes is SWAPPING or EXHAUSTED (R117). -/
theorem State.closeTote_state {s : State} {k : Chute} {d : DescriptorIndex} (ha : (s.chute k).active = some d)
    (cause : CloseCause) :
    ((s.closeTote k cause).chute k).state = .swapping ∨ ((s.closeTote k cause).chute k).state = .exhausted := by
  have hexhausts := State.closeTote_exhausts ha cause
  cases hchain : (s.chute k).chain with
  | nil =>
    rw [hexhausts (.inr hchain), State.offerEvent_chute, State.chute_modChute_self]
    exact .inr rfl
  | cons h rest =>
    cases hflag : (s.descriptor d).continueFlag with
    | false =>
      rw [hexhausts (.inl hflag), State.offerEvent_chute, State.chute_modChute_self]
      exact .inr rfl
    | true =>
      rw [State.closeTote_continues ha cause hflag hchain, State.offerEvent_chute, State.chute_modChute_self]
      exact .inl rfl

section Completion

variable {s : State} {k : Chute}

theorem State.completeClosing_stays (h : (s.chute k).state ≠ .closing ∨ s.ordersAt k ≠ 0) : s.completeClosing k = s := by
  unfold State.completeClosing
  split
  · next hstate _ => exact if_neg (h.resolve_left (not_not_intro hstate))
  · rfl

theorem State.completeClosing_closes {cause : CloseCause} (hstate : (s.chute k).state = .closing)
    (hcause : (s.chute k).pendingCause = some cause) (h : s.ordersAt k = 0) : s.completeClosing k = s.closeTote k cause := by
  simp only [State.completeClosing, hstate, hcause, if_pos h]

/-- Once its tote has closed, a chute has no closing left to complete. -/
theorem State.completeClosing_closeTote (cause : CloseCause) : (s.closeTote k cause).completeClosing k = s.closeTote k cause := by
  cases ha : (s.chute k).active with
  | none =>
    rw [State.closeTote_noTote ha]
    unfold State.completeClosing
    split
    · rw [State.closeTote_noTote ha, ite_self]
    · rfl
  | some d =>
    refine State.completeClosing_stays (.inl ?_)
    rcases State.closeTote_state ha cause with h | h <;> rw [h] <;> decide

theorem State.countTest_stays {d : DescriptorIndex} (h : (s.descriptor d).committedItems ≠ (s.descriptor d).capacity) :
    s.countTest k d = s := if_neg h

theorem State.countTest_opened {d : DescriptorIndex} (h : (s.descriptor d).committedItems = (s.descriptor d).capacity)
    (hstate : (s.chute k).state = .opened) : s.countTest k d = s.closeTote k .count := by
  simp only [State.countTest, if_pos h, hstate]

theorem State.countTest_closing {d : DescriptorIndex} {cause : CloseCause}
    (h : (s.descriptor d).committedItems = (s.descriptor d).capacity) (hstate : (s.chute k).state = .closing)
    (hcause : (s.chute k).pendingCause = some cause) : s.countTest k d = s.closeTote k cause := by
  simp only [State.countTest, if_pos h, hstate, hcause]

end Completion

/-- The state once an order's entry is removed and its reservation released, before the tests (R112). -/
def State.released (s : State) (o : DivertOrder) : State :=
  { s with orders := s.orders.erase o }.modDescriptor o.descriptor (fun D => D.unreserve o.grams)

/-- The state once an order's entry is removed and its reservation committed, before the tests (R111). -/
def State.committed (s : State) (o : DivertOrder) : State :=
  { s with orders := s.orders.erase o }.modDescriptor o.descriptor (fun D => D.commit o.grams)

theorem State.settleRelease_eq (s : State) (o : DivertOrder) :
    s.settleRelease o = (s.released o).completeClosing o.chute := rfl

theorem State.settleCommit_eq (s : State) (o : DivertOrder) :
    s.settleCommit o = ((s.committed o).countTest o.chute o.descriptor).completeClosing o.chute := rfl

/-- A commit is a release that is then counted on the tote. -/
theorem State.committed_eq (s : State) (o : DivertOrder) :
    s.committed o = (s.released o).modDescriptor o.descriptor (fun D => { D with
      committedItems := D.committedItems + 1, committedGrams := D.committedGrams + o.grams }) := by
  rw [State.released, State.modDescriptor_modDescriptor]
  rfl

theorem State.committed_full (s : State) (o : DivertOrder) :
    ((s.committed o).descriptor o.descriptor).committedItems = ((s.committed o).descriptor o.descriptor).capacity ↔
      (s.descriptor o.descriptor).committedItems + 1 = (s.descriptor o.descriptor).capacity := by
  rw [State.committed, State.descriptor_modDescriptor_self]
  rfl

section Settling

variable {s : State} {o : DivertOrder}

/-- A commit below the capacity makes the completion test alone. -/
theorem State.settleCommit_of_not_full (h : (s.descriptor o.descriptor).committedItems + 1 ≠ (s.descriptor o.descriptor).capacity) :
    s.settleCommit o = (s.committed o).completeClosing o.chute := by
  rw [State.settleCommit_eq, State.countTest_stays (mt (s.committed_full o).mp h)]

/-- A commit that reaches the capacity of an OPEN chute's tote closes it with COUNT. -/
theorem State.settleCommit_of_full_opened
    (h : (s.descriptor o.descriptor).committedItems + 1 = (s.descriptor o.descriptor).capacity)
    (hstate : (s.chute o.chute).state = .opened) : s.settleCommit o = (s.committed o).closeTote o.chute .count := by
  rw [State.settleCommit_eq, State.countTest_opened ((s.committed_full o).mpr h) hstate, State.completeClosing_closeTote]

/-- A commit that reaches the capacity of a CLOSING chute's tote closes it with the pending cause. -/
theorem State.settleCommit_of_full_closing {cause : CloseCause}
    (h : (s.descriptor o.descriptor).committedItems + 1 = (s.descriptor o.descriptor).capacity)
    (hstate : (s.chute o.chute).state = .closing) (hcause : (s.chute o.chute).pendingCause = some cause) :
    s.settleCommit o = (s.committed o).closeTote o.chute cause := by
  rw [State.settleCommit_eq, State.countTest_closing ((s.committed_full o).mpr h) hstate hcause,
    State.completeClosing_closeTote]

end Settling

/-- Settles O31: the COUNT test, then the completion test, which finds nothing left after a close. -/
theorem settledOrderIsReleasedOrCommitted : Obligations.SettledOrderIsReleasedOrCommitted := by
  intro s o k left released committed full
  have hcommitted : committed = s.committed o := (s.committed_eq o).symm
  rw [hcommitted]
  refine ⟨State.completeClosing_stays (s := s.released o),
    fun cause => State.completeClosing_closes (s := s.released o), fun hfull h => ?notFull,
    State.settleCommit_of_full_opened, fun cause hstate hcause h => ?closing⟩
  case notFull =>
    rw [State.settleCommit_of_not_full hfull]
    exact State.completeClosing_stays h
  case closing =>
    by_cases hfull : full
    · exact State.settleCommit_of_full_closing hfull hstate hcause
    · rw [State.settleCommit_of_not_full hfull]
      exact State.completeClosing_closes hstate hcause (h.resolve_left hfull)

/-! ### The checks of a chute for an order (R81, R87, R110) -/

section Checks

variable {s : State} {g : Nat}

theorem State.acceptable_of_accepts {k : Chute} {d : DescriptorIndex} (h : s.accepts k g d) : s.acceptable k g = some d := by
  obtain ⟨hstate, hdisabled, hjammed, horders, hactive, hitems, hgrams⟩ := h
  have hgrants : s.grants k g = some d := by simp [State.grants, hstate, hactive, hitems, hgrams]
  rw [← hgrants]
  exact if_pos ⟨hstate, hdisabled, hjammed, horders⟩

theorem State.acceptable_of_refuses {k : Chute} (h : s.refuses k g) : s.acceptable k g = none := by
  unfold State.acceptable
  split
  · next htests =>
    obtain ⟨hstate, hdisabled, hjammed, horders⟩ := htests
    rcases h with h | h | h | h | h
    · exact absurd hstate h
    · simp [hdisabled] at h
    · simp [hjammed] at h
    · exact absurd horders (Nat.not_lt.mpr h)
    · unfold State.grants
      split
      · next d _ hactive =>
        refine if_neg fun hroom => ?_
        obtain ⟨hitems, hgrams⟩ := Bool.and_eq_true_iff.mp hroom
        rcases h d hactive with hfull | hheavy
        · exact Nat.not_lt.mpr hfull (of_decide_eq_true hitems)
        · exact Nat.not_le.mpr hheavy (of_decide_eq_true hgrams)
      · rfl
  · rfl

/-- A chute that a request finds acceptable passes every check (R81, R110). -/
theorem State.accepts_of_acceptable {k : Chute} {d : DescriptorIndex} (h : s.acceptable k g = some d) : s.accepts k g d := by
  unfold State.acceptable at h
  obtain ⟨⟨hstate, hdisabled, hjammed, horders⟩, hgrants⟩ := Option.ite_none_right_eq_some.mp h
  unfold State.grants at hgrants
  split at hgrants
  · next e _ hactive =>
    obtain ⟨hroom, he⟩ := Option.ite_none_right_eq_some.mp hgrants
    obtain ⟨hitems, hgrams⟩ := Bool.and_eq_true_iff.mp hroom
    cases he
    exact ⟨hstate, hdisabled, hjammed, horders, hactive, of_decide_eq_true hitems, of_decide_eq_true hgrams⟩
  · cases hgrants

theorem State.firstAcceptable_skips {pre : List Chute} (h : ∀ j ∈ pre, s.refuses j g) (ks : List Chute) :
    s.firstAcceptable g (pre ++ ks) = s.firstAcceptable g ks := by
  induction pre with
  | nil => rfl
  | cons k pre ih =>
    obtain ⟨hk, hpre⟩ := List.forall_mem_cons.mp h
    simp only [List.cons_append, State.firstAcceptable, State.acceptable_of_refuses hk, ih hpre]

theorem State.firstAcceptable_accepted {pre : List Chute} {k : Chute} {d : DescriptorIndex} (h : ∀ j ∈ pre, s.refuses j g)
    (hk : s.accepts k g d) (post : List Chute) : s.firstAcceptable g (pre ++ k :: post) = some (k, d) := by
  simp only [State.firstAcceptable_skips h, State.firstAcceptable, State.acceptable_of_accepts hk]

theorem State.firstAcceptable_refused {ks : List Chute} (h : ∀ j ∈ ks, s.refuses j g) : s.firstAcceptable g ks = none := by
  rw [← List.append_nil ks, State.firstAcceptable_skips h]
  rfl

/-- The chute that is found acceptable passes every check. -/
theorem State.accepts_of_firstAcceptable {ks : List Chute} {k : Chute} {d : DescriptorIndex}
    (h : s.firstAcceptable g ks = some (k, d)) : s.accepts k g d := by
  induction ks with
  | nil => cases h
  | cons j rest ih =>
    unfold State.firstAcceptable at h
    split at h
    · next e he =>
      cases h
      exact State.accepts_of_acceptable he
    · exact ih h

end Checks

/-! ### Requests (R80 to R84, R87, R88) -/

@[simp] theorem State.sendSorter_context (s : State) (f : SorterFrame) (i : ContextIndex) :
    (s.sendSorter f).context i = s.context i := by rw [State.sendSorter_frame]; rfl

/-- The order placed request makes a GRADED context ORDERED (R4). -/
theorem State.placeOrder_graded {s : State} {i : ContextIndex} (h : (s.context i).state = .graded) :
    s.placeOrder i = s.modContext i (fun c => { c with state := .ordered }) := State.modContext_congr s i (if_pos h)

/-- An order for a GRADED context leaves it ORDERED (R82). -/
theorem State.issueOrder_graded {s : State} {i : ContextIndex} (h : (s.context i).state = .graded) (t : Tray) (k : Chute)
    (d : DescriptorIndex) (g : Nat) : s.issueOrder t k d g (some i) = s.ordered t k d g (some i) := by
  refine State.placeOrder_graded ?_
  rw [State.sendSorter_context]
  exact h

section Requests

variable {s : State} {t : Tray}

theorem State.tryException_accepted {g : Nat} {d : DescriptorIndex} (h : s.accepts s.settings.exceptionChute g d)
    (c : Option ContextIndex) : s.tryException t g c = s.issueOrder t s.settings.exceptionChute d g c := by
  simp only [State.tryException, State.acceptable_of_accepts h]

theorem State.tryException_refused {g : Nat} (h : s.refuses s.settings.exceptionChute g) (c : Option ContextIndex) :
    s.tryException t g c = (s.recirculate t c).offerEvent (.exceptionUnavailable t s.settings.exceptionChute) := by
  simp only [State.tryException, State.acceptable_of_refuses h]

theorem State.answerRequest_untracked (h : s.lookup t = none) :
    s.answerRequest t = s.tryException t s.settings.defaultWeight none := by
  simp only [State.answerRequest, h]

variable {i : ContextIndex} (hmap : s.lookup t = some i) (hgraded : (s.context i).state = .graded)

include hmap hgraded

theorem State.answerRequest_target (h : (s.context i).laps < s.settings.lapLimit) : s.answerRequest t = s.tryTarget t i := by
  simp only [State.answerRequest, hmap, hgraded, if_pos h]

theorem State.answerRequest_exception (h : s.settings.lapLimit ≤ (s.context i).laps) : s.answerRequest t =
    (s.modContext i (fun c => { c with exceptionRoute := true })).tryException t (s.itemWeight (s.context i)) (some i) := by
  simp only [State.answerRequest, hmap, hgraded, if_neg (Nat.not_lt.mpr h)]

end Requests

/-- The item weight of R80: the measured grams, else the catalogue's, else the default. -/
theorem State.itemWeight_eq {s : State} {c : Context} {g : Nat} (h : c.measured = some g ∨
    c.measured = none ∧ c.catalogue ≠ 0 ∧ g = c.catalogue ∨
    c.measured = none ∧ c.catalogue = 0 ∧ g = s.settings.defaultWeight) : s.itemWeight c = g := by
  rcases h with hm | ⟨hm, hc, rfl⟩ | ⟨hm, hc, rfl⟩
  · simp only [State.itemWeight, hm]
  · simp only [State.itemWeight, hm, if_neg hc]
  · simp only [State.itemWeight, hm, if_pos hc]

/-- Settles O38: below the lap limit the candidates are tried in order, at it the exception chute alone. -/
theorem requestOrdersGradedContext : Obligations.RequestOrdersGradedContext := by
  intro s t i ct g hup ho hmap hgraded htarget hweight x routed
  have hg := State.itemWeight_eq hweight
  have hrouted : (routed.context i).state = .graded := by
    rw [State.context_modContext_self]
    exact hgraded
  rw [exec_decisionReq hup ho]
  refine ⟨fun hlaps => ?target, fun hlaps => ?exception⟩
  case target =>
    rw [State.answerRequest_target hmap hgraded hlaps]
    refine ⟨fun pre k post d hsplit hpre hk => congrArg _ ?_, fun hall => congrArg _ ?_⟩
    · simp only [State.tryTarget, htarget, hg, hsplit, State.firstAcceptable_accepted hpre hk]
      exact State.issueOrder_graded hgraded t k d g
    · simp only [State.tryTarget, htarget, hg, State.firstAcceptable_refused hall]
      exact State.recirculate_eq s t i
  case exception =>
    rw [State.answerRequest_exception hmap hgraded hlaps, hg]
    refine ⟨fun d haccepts => congrArg _ ?_, fun hrefuses => congrArg _ ?_⟩
    · exact (State.tryException_accepted (s := routed) haccepts _).trans (State.issueOrder_graded hrouted t x d g)
    · rw [State.tryException_refused (s := routed) hrefuses, State.recirculate_eq]
      rfl

/-- A settled release leaves the links and the entries of the other orders. -/
theorem State.settleRelease_sorterLink (s : State) (o : DivertOrder) : (s.settleRelease o).sorterLink = s.sorterLink := by
  have h := s.settleRelease_moved o
  unfold TotesMoved at h
  rw [h]

theorem State.settleRelease_orders (s : State) (o : DivertOrder) : (s.settleRelease o).orders = s.orders.erase o := by
  have h := s.settleRelease_moved o
  unfold TotesMoved at h
  rw [h]

@[simp] theorem State.offerEvent_sorterLink (s : State) (a : Advisory) : (s.offerEvent a).sorterLink = s.sorterLink := by
  rw [State.offerEvent_frame]

@[simp] theorem State.offerEvent_orders (s : State) (a : Advisory) : (s.offerEvent a).orders = s.orders := by
  rw [State.offerEvent_frame]

/-- The return of an ORDERED context to GRADED (R4). -/
theorem State.unorder_ordered {s : State} {i : ContextIndex} (h : (s.context i).state = .ordered) :
    s.unorder i = s.modContext i (fun c => { c with state := .graded }) := State.modContext_congr s i (if_pos h)

section Miss

variable {s : State} {o : DivertOrder} (hup : s.sorterLink = .up) (hone : (s.orders.map DivertOrder.tray).Nodup)
  (ho : o ∈ s.orders)

include hup hone ho

/-- A request for the tray of an outstanding order is that request of a state with the order settled as an implied miss. -/
theorem exec_decisionReq_settled {u : State} (hu : s.impliedMiss o.tray = u) (horders : u.orders = s.orders.erase o)
    (hlink : u.sorterLink = s.sorterLink) : exec (.decisionReq o.tray) s = exec (.decisionReq o.tray) u := by
  have hleft : ∀ o' ∈ u.orders, o'.tray ≠ o.tray := fun o' ho' => tray_ne_of_mem_erase hone ho (horders ▸ ho')
  rw [exec_decisionReq (hlink.trans hup) hleft, ← hu]
  exact congrArg _ (State.sorterFrame_up hup _)

end Miss

/-- Settles O39: the untracked tray goes to the exception chute, and an outstanding order is settled first. -/
theorem requestSettlesAndAnswersUntrackedTray : Obligations.RequestSettlesAndAnswersUntrackedTray := by
  refine ⟨fun s t hup ho hmap => ⟨fun d haccepts => ?accepted, fun hrefuses => ?refused⟩,
    fun s t o hup hone ho ht hordered => ?settled⟩
  case accepted =>
    rw [exec_decisionReq hup ho, State.answerRequest_untracked hmap, State.tryException_accepted haccepts]
    rfl
  case refused =>
    rw [exec_decisionReq hup ho, State.answerRequest_untracked hmap, State.tryException_refused hrefuses]
    rfl
  case settled =>
    intro settled
    subst ht
    have hmiss : s.impliedMiss o.tray = settled.forContext o.context State.unorder := by
      simp only [State.impliedMiss, State.orderFor_tray hone ho]
      rfl
    have horders : settled.orders = s.orders.erase o := by rw [State.offerEvent_orders, State.settleRelease_orders]
    have hlink : settled.sorterLink = s.sorterLink := by rw [State.offerEvent_sorterLink, State.settleRelease_sorterLink]
    refine ⟨fun hc => ?untracked, fun i hc => ?tracked⟩
    case untracked =>
      rw [hc] at hmiss
      exact exec_decisionReq_settled hup hone ho hmiss horders hlink
    case tracked =>
      have hstate : (settled.context i).state = .ordered := by
        rw [State.offerEvent_context, State.settleRelease_context]
        exact hordered i hc
      rw [hc] at hmiss
      exact exec_decisionReq_settled hup hone ho (hmiss.trans (State.unorder_ordered hstate)) horders hlink

/-! ### Divert reports (R90 to R96, R123) -/

@[simp] theorem State.settleCommit_context (s : State) (o : DivertOrder) (i : ContextIndex) :
    (s.settleCommit o).context i = s.context i := by
  have h := s.settleCommit_moved o
  unfold TotesMoved at h
  rw [h]
  rfl

@[simp] theorem State.stray_context (s : State) (k : Chute) (i : ContextIndex) : (s.stray k).1.context i = s.context i := by
  have h := s.stray_moved k
  unfold TotesMoved at h
  rw [h]
  rfl

section Reports

variable {s : State} (hup : s.sorterLink = .up)

include hup

theorem exec_divertDone_unordered {t : Tray} (h : ∀ o ∈ s.orders, o.tray ≠ t) (k : Chute) :
    exec (.divertDone t k) s = .next (s.deliverUnordered t k) := by
  have hat : s.orderAt t k = none := State.orderAt_eq_none fun o ho ht => absurd ht (h o ho)
  simp only [exec, execDivertDone, State.sorterFrame_up hup, hat, State.orderFor_eq_none h]

theorem exec_divertMissed_unmatched {t : Tray} {k : Chute} (h : ∀ o ∈ s.orders, o.tray = t → o.chute ≠ k) :
    exec (.divertMissed t k) s = .next (s.offerEvent (.unmatchedReport t k .missed)) := by
  simp only [exec, execDivertMissed, State.sorterFrame_up hup, State.orderAt_eq_none h]

variable {o : DivertOrder} (hone : (s.orders.map DivertOrder.tray).Nodup) (ho : o ∈ s.orders)

include hone ho

theorem exec_divertDone_ordered : exec (.divertDone o.tray o.chute) s = .next (s.deliver o.tray o.chute o) := by
  simp only [exec, execDivertDone, State.sorterFrame_up hup, State.orderAt_tray_chute hone ho]

theorem exec_divertDone_elsewhere {k : Chute} (hk : k ≠ o.chute) :
    exec (.divertDone o.tray k) s = .next (s.deliverElsewhere o.tray k o) := by
  simp only [exec, execDivertDone, State.sorterFrame_up hup, State.orderAt_otherChute hone ho hk,
    State.orderFor_tray hone ho]

theorem exec_divertMissed_ordered : exec (.divertMissed o.tray o.chute) s = .next (s.missOrder o) := by
  simp only [exec, execDivertMissed, State.sorterFrame_up hup, State.orderAt_tray_chute hone ho]

end Reports

/-- Settles O40: the order found is the one reported, and its close finds the context ORDERED still. -/
theorem divertAsOrderedIsCommitted : Obligations.DivertAsOrderedIsCommitted := by
  intro s o hup hone ho
  rw [exec_divertDone_ordered hup hone ho]
  refine ⟨fun i hc hordered => congrArg _ ?_, fun hc => congrArg _ ?_⟩
  · simp only [State.deliver, hc, State.closeDiverted, State.settleCommit_context, if_pos hordered]
  · simp only [State.deliver, hc]

theorem State.stray_eq {s : State} {k : Chute} {d : DescriptorIndex} (h : (s.chute k).active = some d) : s.stray k =
    (s.modDescriptor d (fun D => { D with strays := if D.strays < 255 then D.strays + 1 else 255 }),
      (s.descriptor d).readId) := by
  have hcount : ∀ n, min Config.strayMax (n + 1) = if n < 255 then n + 1 else 255 := by
    intro n
    unfold Config.strayMax
    split <;> omega
  simp only [State.stray, h, hcount]

theorem State.stray_noTote {s : State} {k : Chute} (h : (s.chute k).active = none) : s.stray k = (s, 0) := by
  simp only [State.stray, h]

/-- A request to close MISDELIVERED finds the context QUEUED, GRADED or ORDERED (R4). -/
theorem State.closeMisdelivered_eq {s : State} {i : ContextIndex}
    (h : (s.context i).state = .ordered ∨ (s.context i).state = .queued ∨ (s.context i).state = .graded) (d : Delivery) :
    s.closeMisdelivered i d = s.closeContext i .misdelivered (some d) := by
  rcases h with h | h | h <;> simp only [State.closeMisdelivered, h]

/-- Settles O41: the stray, the report of an order for another chute, and the report with no order. -/
theorem divertElsewhereIsAStray : Obligations.DivertElsewhereIsAStray := by
  refine ⟨fun s k d => State.stray_eq, fun s k => State.stray_noTote, fun s o k hup hone ho hk => ?ordered,
    fun s t k hup ho => ?unordered⟩
  case ordered =>
    intro counted
    rw [exec_divertDone_elsewhere hup hone ho hk]
    refine ⟨fun hc => ?_, fun i hc hordered => ?_⟩
    · simp only [State.deliverElsewhere, hc, State.forContext]
      rfl
    · have hstate : (counted.1.context i).state = .ordered := by
        rw [State.stray_context, State.settleRelease_context]
        exact hordered
      simp only [State.deliverElsewhere, hc, State.forContext]
      rw [State.closeMisdelivered_eq (.inl hstate)]
  case unordered =>
    intro counted
    have hcontext : ∀ i, counted.context i = s.context i := fun i => by rw [State.offerEvent_context, State.stray_context]
    rw [exec_divertDone_unordered hup ho]
    refine ⟨fun hmap => ?_, fun i hmap hstate => ?_, fun i hmap hstate => ?_⟩
    · simp only [State.deliverUnordered, hmap]
      rfl
    · rw [← State.closeMisdelivered_eq (.inr ((hcontext i).symm ▸ hstate))]
      rcases hstate with h | h <;> simp only [State.deliverUnordered, hmap, h] <;> rfl
    · rcases hstate with h | h <;> simp only [State.deliverUnordered, hmap, h] <;> rfl

/-- A missed order's context is GRADED again with one lap more (R5, R94, R96). -/
theorem State.missOrder_ordered {s : State} {o : DivertOrder} {i : ContextIndex} (hc : o.context = some i)
    (hordered : (s.context i).state = .ordered) :
    s.missOrder o = (s.settleRelease o).modContext i (fun c => { c with
      state := .graded, laps := if c.laps < 15 then c.laps + 1 else 15 }) := by
  have hlap : ∀ n, min Config.lapMax (n + 1) = if n < 15 then n + 1 else 15 := by
    intro n
    unfold Config.lapMax
    split <;> omega
  have hstate : ((s.settleRelease o).context i).state = .ordered := by rwa [State.settleRelease_context]
  simp only [State.missOrder, hc, State.forContext, State.unorder_ordered hstate, State.countLap, hlap]
  rw [State.modContext_modContext]

theorem State.missOrder_untracked {s : State} {o : DivertOrder} (hc : o.context = none) :
    s.missOrder o = s.settleRelease o := by simp only [State.missOrder, hc, State.forContext]

theorem exec_orderExpiry_expired {s : State} {o : DivertOrder} (hone : (s.orders.map DivertOrder.tray).Nodup)
    (ho : o ∈ s.orders) (hr : o.remaining = 0) :
    exec (.orderExpiry o.tray o.chute) s = .next ((s.missOrder o).offerEvent (.orderExpired o.tray o.chute)) := by
  simp only [exec, execOrderExpiry, State.expiredOrder_tray_chute hone ho hr]

/-- Settles O42: the miss and the expiry settle the one order alike, and an order with time left is not found. -/
theorem missedOrExpiredOrderIsReleased : Obligations.MissedOrExpiredOrderIsReleased := by
  refine ⟨fun s o hone ho => ?settles, fun s t k hleft => ?timeLeft⟩
  case settles =>
    intro settles
    have hsettles : settles (s.missOrder o) :=
      ⟨fun hup => exec_divertMissed_ordered hup hone ho, exec_orderExpiry_expired hone ho⟩
    exact ⟨fun hc => State.missOrder_untracked hc ▸ hsettles,
      fun i hc hordered => State.missOrder_ordered hc hordered ▸ hsettles⟩
  case timeLeft =>
    have hnone : s.expiredOrder t k = none := List.find?_eq_none.mpr fun o ho => by simpa using hleft o ho
    simp only [exec, execOrderExpiry, hnone]

/-- Settles O43. -/
theorem unmatchedMissOnlyOffersItsEvent : Obligations.UnmatchedMissOnlyOffersItsEvent := fun _ _ _ hup h =>
  exec_divertMissed_unmatched hup h

end Sys2Proof.Machine
end

section
/-! The laws of chutes, totes and orders by the parts of the state that they read, and what the tote chain unit's changes keep of the
chains (R103 to R109, R117 to R120). -/

namespace Sys2Proof.Machine

/-! ### The laws part by part -/

/-- The descriptors of a chute's sequence whose totes are not yet in place. -/
def ChuteRecord.queue (c : ChuteRecord) : List DescriptorIndex := c.pending.toList ++ c.chain

/-- The laws of one descriptor by itself (R103, R106, R108, R117). -/
structure DescriptorSound (D : Descriptor) : Prop where
  free : D.state = .free → D = {}
  fresh : D.state = .queued → D.committedItems = 0 ∧ D.committedGrams = 0 ∧ D.reservedItems = 0 ∧ D.reservedGrams = 0 ∧
    D.readId = 0 ∧ D.strays = 0
  closeCause : D.closeCause.isSome ↔ D.state = .closed
  ranges : D.state ≠ .free →
    1 ≤ D.capacity ∧ D.capacity ≤ 60 ∧ 100 ≤ D.weightLimit ∧ D.weightLimit ≤ 30000 ∧ D.strays ≤ 255

/-- Descriptor d, in state st, stands where its state says: in a chute's queue, in place, or with its waiting record (R104, R118). -/
structure PlaceSound (chute : Chute → ChuteRecord) (waiting : List WaitingTote) (d : DescriptorIndex)
    (st : DescriptorState) : Prop where
  queued : st = .queued ↔ ∃ k, d ∈ (chute k).queue
  active : st = .active ↔ ∃ k, (chute k).active = some d
  closed : st = .closed ↔ ∃ w ∈ waiting, w.descriptor = d

/-- The laws of chutes and descriptors that no order has a part in (R103 to R106, R118). -/
structure ChainsSound (chute : Chute → ChuteRecord) (descriptor : DescriptorIndex → Descriptor)
    (waiting : List WaitingTote) : Prop where
  chutes : ∀ k, ChuteSound (chute k)
  sequenceNodup : ∀ k, (chute k).sequence.Nodup
  sequenceDisjoint : ∀ k j d, k ≠ j → d ∈ (chute k).sequence → d ∉ (chute j).sequence
  links : ∀ (k : Chute) (n : Nat) (h : n < (chute k).sequence.length),
    (descriptor (chute k).sequence[n]).next = (chute k).sequence[n + 1]?
  places : ∀ d, PlaceSound chute waiting d (descriptor d).state
  waitingNodup : (waiting.map WaitingTote.descriptor).Nodup
  descriptors : ∀ d, DescriptorSound (descriptor d)

/-- The outstanding orders of a list for chute k (R77). -/
def ordersOn (orders : List DivertOrder) (k : Chute) : List DivertOrder := orders.filter (fun o => o.chute = k)

/-- The laws of the order list and of the counts on the totes in place (R77, R78, R110). -/
structure OrdersSound (chute : Chute → ChuteRecord) (descriptor : DescriptorIndex → Descriptor)
    (orders : List DivertOrder) : Prop where
  active : ∀ o ∈ orders, (chute o.chute).active = some o.descriptor
  tally : ∀ k d, (chute k).active = some d → TallySound (descriptor d) (ordersOn orders k)
  two : ∀ k, (ordersOn orders k).length ≤ 2
  one : (orders.map DivertOrder.tray).Nodup

/-- Every CLOSING chute but k has an order outstanding (R105). -/
def HeldBut (k : Option Chute) (chute : Chute → ChuteRecord) (orders : List DivertOrder) : Prop :=
  ∀ j, k ≠ some j → (chute j).state = .closing → ordersOn orders j ≠ []

/-- The entries name the ORDERED contexts, each for its tray, but that context c may be ORDERED with no entry (R77). -/
structure NamedBut (c : Option ContextIndex) (context : ContextIndex → Context) (orders : List DivertOrder) : Prop where
  ordered : ∀ o ∈ orders, ∀ i, o.context = some i → c ≠ some i ∧ (context i).state = .ordered ∧ (context i).tray = o.tray
  named : ∀ i, c ≠ some i → (context i).state = .ordered → ∃ o ∈ orders, o.context = some i

/-- The laws of totes and orders, but that chute k may be CLOSING and context c ORDERED with no order left for it: between the
removal of an entry and the tests and requests that follow it in the same step. -/
structure TotesLaws (k : Option Chute) (c : Option ContextIndex) (chute : Chute → ChuteRecord)
    (descriptor : DescriptorIndex → Descriptor) (waiting : List WaitingTote) (orders : List DivertOrder)
    (context : ContextIndex → Context) : Prop where
  chains : ChainsSound chute descriptor waiting
  tallies : OrdersSound chute descriptor orders
  held : HeldBut k chute orders
  named : NamedBut c context orders

/-- A state that meets those laws and the laws of the item context table. -/
def TotesSoundBut (k : Option Chute) (c : Option ContextIndex) (s : State) : Prop :=
  ContextsSound s ∧ TotesLaws k c s.chute s.descriptor s.waitingTotes s.orders s.context

/-- With no exception the laws are those of the obligation. -/
theorem totesSoundBut_none (s : State) : TotesSoundBut none none s ↔ ContextsSound s ∧ TotesSound s := by
  refine and_congr_right fun _ => ⟨fun ⟨hchains, htallies, hheld, hnamed⟩ => ?_, fun h => ?_⟩
  · exact {
      chutes := hchains.chutes
      sequenceNodup := hchains.sequenceNodup
      sequenceDisjoint := hchains.sequenceDisjoint
      queued := fun d => (hchains.places d).queued
      active := fun d => (hchains.places d).active
      closed := fun d => (hchains.places d).closed
      waitingNodup := hchains.waitingNodup
      orderActive := htallies.active
      tally := htallies.tally
      twoOrders := htallies.two
      closingHeld := fun k => hheld k (by simp)
      oneOrder := htallies.one
      orderContext := fun o ho i hi => (hnamed.ordered o ho i hi).2
      orderedNamed := fun i => hnamed.named i (by simp)
      links := hchains.links
      free := fun d => (hchains.descriptors d).free
      fresh := fun d => (hchains.descriptors d).fresh
      closeCause := fun d => (hchains.descriptors d).closeCause
      ranges := fun d => (hchains.descriptors d).ranges }
  · exact {
      chains := {
        chutes := h.chutes
        sequenceNodup := h.sequenceNodup
        sequenceDisjoint := h.sequenceDisjoint
        links := h.links
        places := fun d => ⟨h.queued d, h.active d, h.closed d⟩
        waitingNodup := h.waitingNodup
        descriptors := fun d => ⟨h.free d, h.fresh d, h.closeCause d, h.ranges d⟩ }
      tallies := ⟨h.orderActive, h.tally, h.twoOrders, h.oneOrder⟩
      held := fun k _ => h.closingHeld k
      named := ⟨fun o ho i hi => ⟨by simp, h.orderContext o ho i hi⟩, fun i _ => h.orderedNamed i⟩ }

/-! ### Chutes by their state (R105) -/

section Chutes

variable {c : ChuteRecord} (h : ChuteSound c)

include h

theorem ChuteSound.pending_eq_none (hstate : c.state ≠ .swapping) : c.pending = none := by
  obtain ⟨hpending, -⟩ := h
  exact Option.not_isSome_iff_eq_none.mp (mt hpending.mp hstate)

theorem ChuteSound.active_eq_none (hopened : c.state ≠ .opened) (hclosing : c.state ≠ .closing) : c.active = none := by
  obtain ⟨-, hactive, -⟩ := h
  exact Option.not_isSome_iff_eq_none.mp (mt hactive.mp (not_or.mpr ⟨hopened, hclosing⟩))

theorem ChuteSound.pendingCause_eq_none (hstate : c.state ≠ .closing) : c.pendingCause = none := by
  obtain ⟨-, -, hcause⟩ := h
  exact Option.not_isSome_iff_eq_none.mp (mt hcause.mp hstate)

theorem ChuteSound.state_of_active {d : DescriptorIndex} (ha : c.active = some d) : c.state = .opened ∨ c.state = .closing := by
  obtain ⟨-, hactive, -⟩ := h
  exact hactive.mp (by rw [ha]; rfl)

theorem ChuteSound.pending_of_active {d : DescriptorIndex} (ha : c.active = some d) : c.pending = none := by
  refine h.pending_eq_none ?_
  rcases h.state_of_active ha with hs | hs <;> rw [hs] <;> decide

/-- The tote in place is at the head of the sequence, and the queue behind it. -/
theorem ChuteSound.sequence_eq : c.sequence = c.active.toList ++ c.queue := by
  unfold ChuteRecord.sequence ChuteRecord.queue
  cases ha : c.active with
  | none => simp
  | some d => simp [h.pending_of_active ha]

/-- The last of a sequence (R107). -/
theorem ChuteSound.lastOfSequence_eq : c.lastOfSequence = c.sequence.getLast? := by
  rw [h.sequence_eq]
  unfold ChuteRecord.lastOfSequence ChuteRecord.queue
  cases hc : c.chain.getLast? with
  | some d => simp [hc]
  | none =>
    rw [List.getLast?_eq_none_iff.mp hc]
    cases ha : c.active with
    | none => cases c.pending <;> rfl
    | some d => simp [h.pending_of_active ha]

end Chutes

theorem ChuteRecord.mem_sequence (c : ChuteRecord) (d : DescriptorIndex) : d ∈ c.sequence ↔ c.active = some d ∨ d ∈ c.queue := by
  simp only [ChuteRecord.sequence, ChuteRecord.queue, List.mem_append, Option.mem_toList]
  rw [or_comm (a := c.pending = some d), or_assoc]

/-! ### The chains, and changes that keep every descriptor's place -/

section Chains

variable {chute chute' : Chute → ChuteRecord} {descriptor descriptor' : DescriptorIndex → Descriptor}
  {waiting waiting' : List WaitingTote} (h : ChainsSound chute descriptor waiting)

include h

theorem ChainsSound.sequence_eq (k : Chute) : (chute k).sequence = (chute k).active.toList ++ (chute k).queue :=
  (h.chutes k).sequence_eq

theorem ChainsSound.eq_of_mem {k j : Chute} {d : DescriptorIndex} (hk : d ∈ (chute k).sequence) (hj : d ∈ (chute j).sequence) :
    k = j :=
  Decidable.byContradiction fun hne => h.sequenceDisjoint k j d hne hk hj

theorem ChainsSound.active_state {k : Chute} {d : DescriptorIndex} (ha : (chute k).active = some d) :
    (descriptor d).state = .active := (h.places d).active.mpr ⟨k, ha⟩

theorem ChainsSound.queue_state {k : Chute} {d : DescriptorIndex} (hd : d ∈ (chute k).queue) :
    (descriptor d).state = .queued := (h.places d).queued.mpr ⟨k, hd⟩

/-- No two chutes have one tote in place. -/
theorem ChainsSound.active_inj {k j : Chute} {d : DescriptorIndex} (hk : (chute k).active = some d)
    (hj : (chute j).active = some d) : k = j :=
  h.eq_of_mem (((chute k).mem_sequence d).mpr (.inl hk)) (((chute j).mem_sequence d).mpr (.inl hj))

/-- A change that takes descriptors from the heads of sequences alone. -/
theorem ChainsSound.of_suffix (hchutes : ∀ k, ChuteSound (chute' k))
    (hseq : ∀ k, (chute' k).sequence <:+ (chute k).sequence)
    (hnext : ∀ k, ∀ d ∈ (chute' k).sequence, (descriptor' d).next = (descriptor d).next)
    (hplaces : ∀ d, PlaceSound chute' waiting' d (descriptor' d).state)
    (hwaiting : (waiting'.map WaitingTote.descriptor).Nodup) (hdesc : ∀ d, DescriptorSound (descriptor' d)) :
    ChainsSound chute' descriptor' waiting' where
  chutes := hchutes
  sequenceNodup k := (h.sequenceNodup k).sublist (hseq k).sublist
  sequenceDisjoint k j d hne hk hj := h.sequenceDisjoint k j d hne ((hseq k).mem hk) ((hseq j).mem hj)
  links k n hn := by
    rw [hnext k _ (List.getElem_mem hn)]
    obtain ⟨pre, hpre⟩ := hseq k
    have hlen : pre.length + n < (chute k).sequence.length := by
      rw [← hpre, List.length_append]
      omega
    have hlink := h.links k (pre.length + n) hlen
    have hget : (chute k).sequence[pre.length + n] = (chute' k).sequence[n] := by
      simp only [← hpre, List.getElem_append_right (Nat.le_add_right _ _), Nat.add_sub_cancel_left]
    rw [hget, ← hpre, List.getElem?_append_right (by omega)] at hlink
    rw [hlink]
    congr 1
    omega
  places := hplaces
  waitingNodup := hwaiting
  descriptors := hdesc

/-- A change that keeps every sequence, and the state and link of every descriptor. -/
theorem ChainsSound.of_places (hchutes : ∀ k, ChuteSound (chute' k)) (hactive : ∀ k, (chute' k).active = (chute k).active)
    (hqueue : ∀ k, (chute' k).queue = (chute k).queue) (hstate : ∀ d, (descriptor' d).state = (descriptor d).state)
    (hnext : ∀ d, (descriptor' d).next = (descriptor d).next) (hdesc : ∀ d, DescriptorSound (descriptor' d)) :
    ChainsSound chute' descriptor' waiting := by
  have hseq : ∀ k, (chute' k).sequence = (chute k).sequence := fun k => by
    rw [(hchutes k).sequence_eq, h.sequence_eq, hactive, hqueue]
  refine h.of_suffix hchutes (fun k => hseq k ▸ List.suffix_rfl) (fun _ d _ => hnext d) (fun d => ?_) h.waitingNodup hdesc
  obtain ⟨hq, ha, hc⟩ := h.places d
  simp only [hstate d]
  exact ⟨by simp only [hqueue, hq], by simp only [hactive, ha], hc⟩

/-- The chutes' records alone change, with every sequence kept. -/
theorem ChainsSound.of_chutes (hchutes : ∀ k, ChuteSound (chute' k)) (hactive : ∀ k, (chute' k).active = (chute k).active)
    (hqueue : ∀ k, (chute' k).queue = (chute k).queue) : ChainsSound chute' descriptor waiting :=
  h.of_places hchutes hactive hqueue (fun _ => rfl) (fun _ => rfl) h.descriptors

/-- The descriptors' counts alone change. -/
theorem ChainsSound.of_descriptors (hstate : ∀ d, (descriptor' d).state = (descriptor d).state)
    (hnext : ∀ d, (descriptor' d).next = (descriptor d).next) (hdesc : ∀ d, DescriptorSound (descriptor' d)) :
    ChainsSound chute descriptor' waiting :=
  h.of_places h.chutes (fun _ => rfl) (fun _ => rfl) hstate hnext hdesc

/-! ### A tote that closes, is placed or leaves (R109, R117, R118) -/

/-- The tote in place at chute k closes: its descriptor is freed, or waits CLOSED with its record (R117, R118). -/
theorem ChainsSound.retires {k : Chute} {d : DescriptorIndex} (ha : (chute k).active = some d)
    (hk : chute' k = { chute k with state := .exhausted, active := none, pendingCause := none })
    (hother : ∀ j, j ≠ k → chute' j = chute j) (hsame : ∀ e, e ≠ d → descriptor' e = descriptor e)
    (hd : descriptor' d = {} ∧ waiting' = waiting ∨
      ∃ cause w, descriptor' d = { descriptor d with state := .closed, closeCause := some cause } ∧ w.descriptor = d ∧
        waiting' = waiting ++ [w]) : ChainsSound chute' descriptor' waiting' := by
  have hpending := (h.chutes k).pending_of_active ha
  have hstate := h.active_state ha
  have hqueue : ∀ j, (chute' j).queue = (chute j).queue := fun j => by
    by_cases hj : j = k
    · rw [hj, hk]; rfl
    · rw [hother j hj]
  have hactive : ∀ e, (∃ j, (chute' j).active = some e) ↔ e ≠ d ∧ ∃ j, (chute j).active = some e := fun e => by
    constructor
    · rintro ⟨j, hj⟩
      have hjk : j ≠ k := fun he => by rw [he, hk] at hj; cases hj
      rw [hother j hjk] at hj
      exact ⟨fun he => hjk (h.active_inj (he ▸ hj) ha), j, hj⟩
    · rintro ⟨he, j, hj⟩
      have hjk : j ≠ k := fun hjk => he (Option.some.inj (hj.symm.trans (hjk ▸ ha)))
      exact ⟨j, by rw [hother j hjk, hj]⟩
  have hchutes : ∀ j, ChuteSound (chute' j) := fun j => by
    by_cases hj : j = k
    · rw [hj, hk]
      simp [ChuteSound, hpending]
    · rw [hother j hj]
      exact h.chutes j
  have hwaits : ∀ e, e ≠ d → ((∃ w ∈ waiting', w.descriptor = e) ↔ ∃ w ∈ waiting, w.descriptor = e) := fun e he => by
    rcases hd with ⟨-, hw⟩ | ⟨_, w, -, hwd, hw⟩ <;> rw [hw]
    simp [or_and_right, exists_or, hwd, Ne.symm he]
  have hnotWaiting : ∀ w ∈ waiting, w.descriptor ≠ d := fun w hw he => by
    have := (h.places d).closed.mpr ⟨w, hw, he⟩
    rw [hstate] at this
    cases this
  have hsuffix : ∀ j, (chute' j).sequence <:+ (chute j).sequence := fun j => by
    by_cases hj : j = k
    · rw [(hchutes j).sequence_eq, h.sequence_eq, hqueue, hj, hk]
      exact List.suffix_append _ _
    · exact hother j hj ▸ List.suffix_rfl
  refine h.of_suffix hchutes hsuffix (fun j e he => ?next) (fun e => ?place) ?waiting fun e => ?desc
  case next =>
    rw [hsame e]
    rintro rfl
    rcases ((chute' j).mem_sequence e).mp he with hin | hin
    · exact ((hactive e).mp ⟨j, hin⟩).1 rfl
    · rw [hqueue] at hin
      have := h.queue_state hin
      rw [hstate] at this
      cases this
  case place =>
    obtain ⟨hq, hac, hc⟩ := h.places e
    by_cases he : e = d
    · subst he
      rw [hstate] at hq hac hc
      have hnq : ¬ ∃ j, e ∈ (chute' j).queue := by
        simp only [hqueue]
        exact fun hin => by cases hq.mpr hin
      have hna : ¬ ∃ j, (chute' j).active = some e := fun hin => ((hactive e).mp hin).1 rfl
      rcases hd with ⟨hde, hw⟩ | ⟨_, w, hde, hwd, hw⟩ <;> rw [hde, hw]
      · exact ⟨by simp [hnq], by simp [hna], by simp [hc.symm]⟩
      · exact ⟨by simp [hnq], by simp [hna], by simp [hwd]⟩
    · rw [hsame e he]
      exact ⟨by simp only [hqueue, hq], by rw [hac, hactive]; simp [he], hc.trans (hwaits e he).symm⟩
  case waiting =>
    rcases hd with ⟨-, hw⟩ | ⟨_, w, -, hwd, hw⟩ <;> rw [hw]
    · exact h.waitingNodup
    · rw [List.map_append, List.map_singleton, hwd, List.nodup_append]
      refine ⟨h.waitingNodup, List.pairwise_singleton _ _, fun e he e' he' => ?_⟩
      obtain ⟨w', hw', rfl⟩ := List.mem_map.mp he
      rw [List.mem_singleton.mp he']
      exact hnotWaiting w' hw'
  case desc =>
    by_cases he : e = d
    · subst he
      rcases hd with ⟨hde, -⟩ | ⟨_, w, hde, -, -⟩ <;> rw [hde]
      · exact ⟨fun _ => rfl, by simp, by simp, by simp⟩
      · exact ⟨by simp, by simp, by simp, fun _ => (h.descriptors e).ranges (by rw [hstate]; decide)⟩
    · rw [hsame e he]
      exact h.descriptors e

/-- The pending tote of chute k is placed (R109). -/
theorem ChainsSound.placed {k : Chute} {d : DescriptorIndex} (hpending : (chute k).pending = some d)
    (hk : chute' k = { chute k with state := .opened, active := some d, pending := none })
    (hother : ∀ j, j ≠ k → chute' j = chute j) (hsame : ∀ e, e ≠ d → descriptor' e = descriptor e)
    (hactive : (descriptor' d).state = .active) (hnext : (descriptor' d).next = (descriptor d).next)
    (hsound : DescriptorSound (descriptor' d)) : ChainsSound chute' descriptor' waiting := by
  have hswapping : (chute k).state = .swapping := (h.chutes k).1.mp (by rw [hpending]; rfl)
  have hnone : (chute k).active = none := (h.chutes k).active_eq_none (by rw [hswapping]; decide) (by rw [hswapping]; decide)
  have hcause : (chute k).pendingCause = none := (h.chutes k).pendingCause_eq_none (by rw [hswapping]; decide)
  have hqueue : (chute k).queue = d :: (chute' k).queue := by
    rw [hk]
    simp [ChuteRecord.queue, hpending]
  have hdk : d ∈ (chute k).queue := hqueue ▸ List.mem_cons_self
  have hnodup : d ∉ (chute' k).queue := by
    have := h.sequenceNodup k
    rw [h.sequence_eq, hnone, hqueue] at this
    exact (List.nodup_cons.mp this).1
  have hstate := h.queue_state hdk
  have hplaces : ∀ j e, e ≠ d → (e ∈ (chute' j).queue ↔ e ∈ (chute j).queue) ∧
      ((chute' j).active = some e ↔ (chute j).active = some e) := fun j e he => by
    by_cases hj : j = k
    · rw [hj, hqueue, hk, hnone]
      simp [he, Ne.symm he]
    · rw [hother j hj]
      exact ⟨Iff.rfl, Iff.rfl⟩
  have hchutes : ∀ j, ChuteSound (chute' j) := fun j => by
    by_cases hj : j = k
    · rw [hj, hk]
      simp [ChuteSound, hcause]
    · rw [hother j hj]
      exact h.chutes j
  refine h.of_suffix hchutes (fun j => ?seq) (fun j e he => ?next) (fun e => ?place) h.waitingNodup fun e => ?desc
  case seq =>
    by_cases hj : j = k
    · rw [(hchutes j).sequence_eq, h.sequence_eq, hj, hnone, hqueue, hk]
      exact List.suffix_rfl
    · exact hother j hj ▸ List.suffix_rfl
  case next =>
    by_cases he : e = d
    · rw [he, hnext]
    · rw [hsame e he]
  case place =>
    by_cases he : e = d
    · subst he
      obtain ⟨-, -, hc⟩ := h.places e
      rw [hstate] at hc
      rw [hactive]
      have hnq : ¬ ∃ j, e ∈ (chute' j).queue := by
        rintro ⟨j, hin⟩
        by_cases hj : j = k
        · exact hnodup (hj ▸ hin)
        · rw [hother j hj] at hin
          exact hj (h.eq_of_mem (((chute j).mem_sequence e).mpr (.inr hin)) (((chute k).mem_sequence e).mpr (.inr hdk)))
      exact ⟨by simp [hnq], by simp only [true_iff]; exact ⟨k, by rw [hk]⟩, by simpa using hc⟩
    · obtain ⟨hq, ha, hc⟩ := h.places e
      rw [hsame e he]
      exact ⟨hq.trans (exists_congr fun j => (hplaces j e he).1.symm), ha.trans (exists_congr fun j => (hplaces j e he).2.symm), hc⟩
  case desc =>
    by_cases he : e = d
    · exact he ▸ hsound
    · exact hsame e he ▸ h.descriptors e

/-- The queue of a chute with no tote in place is cleared, and its descriptors become FREE (R120). -/
theorem ChainsSound.cleared {k : Chute} (hnone : (chute k).active = none)
    (hk : chute' k = { chute k with
      state := .unconfigured, active := none, pending := none, chain := [], pendingCause := none })
    (hother : ∀ j, j ≠ k → chute' j = chute j)
    (hdesc : ∀ e, descriptor' e = if e ∈ (chute k).queue then {} else descriptor e) :
    ChainsSound chute' descriptor' waiting := by
  have hempty : (chute' k).queue = [] := by rw [hk]; rfl
  have hgone : (chute' k).active = none := by rw [hk]
  have hchutes : ∀ j, ChuteSound (chute' j) := fun j => by
    by_cases hj : j = k
    · rw [hj, hk]
      simp [ChuteSound]
    · rw [hother j hj]
      exact h.chutes j
  have hkept : ∀ j e, e ∉ (chute k).queue → (e ∈ (chute' j).queue ↔ e ∈ (chute j).queue) ∧
      ((chute' j).active = some e ↔ (chute j).active = some e) := fun j e he => by
    by_cases hj : j = k
    · rw [hj, hempty, hgone, hnone]
      simp [he]
    · rw [hother j hj]
      exact ⟨Iff.rfl, Iff.rfl⟩
  have hout : ∀ j e, e ∈ (chute k).queue → e ∉ (chute' j).sequence := fun j e he hin => by
    by_cases hj : j = k
    · rw [(hchutes j).sequence_eq, hj, hempty, hgone] at hin
      cases hin
    · rw [hother j hj] at hin
      exact hj (h.eq_of_mem hin (((chute k).mem_sequence e).mpr (.inr he)))
  refine h.of_suffix hchutes (fun j => ?seq) (fun j e he => ?next) (fun e => ?place) h.waitingNodup fun e => ?desc
  case seq =>
    by_cases hj : j = k
    · rw [(hchutes j).sequence_eq, hj, hempty, hgone]
      exact List.nil_suffix
    · exact hother j hj ▸ List.suffix_rfl
  case next => rw [hdesc e, if_neg fun hin => hout j e hin he]
  case place =>
    obtain ⟨hq, ha, hc⟩ := h.places e
    rw [hdesc e]
    by_cases he : e ∈ (chute k).queue
    · rw [h.queue_state he] at hc
      have hnot := fun j => mt ((chute' j).mem_sequence e).mpr (hout j e he)
      rw [if_pos he]
      exact ⟨by simpa using fun j hin => hnot j (.inr hin), by simpa using fun j hin => hnot j (.inl hin), by simpa using hc⟩
    · rw [if_neg he]
      exact ⟨hq.trans (exists_congr fun j => (hkept j e he).1.symm), ha.trans (exists_congr fun j => (hkept j e he).2.symm), hc⟩
  case desc =>
    rw [hdesc e]
    split
    · exact ⟨fun _ => rfl, by simp, by simp, by simp⟩
    · exact h.descriptors e

/-- A waiting record enters the outbound queue and its CLOSED descriptor becomes FREE (R118, R164). -/
theorem ChainsSound.admitted {w : WaitingTote} (hw : w ∈ waiting)
    (hdesc : ∀ e, descriptor' e = if w.descriptor = e then {} else descriptor e) :
    ChainsSound chute descriptor' (waiting.erase w) := by
  have hclosed : (descriptor w.descriptor).state = .closed := (h.places _).closed.mpr ⟨w, hw, rfl⟩
  have hinj : ∀ w' ∈ waiting, w'.descriptor = w.descriptor → w' = w := fun w' hw' he =>
    eq_of_mem_of_nodup_map h.waitingNodup hw' hw he
  refine h.of_suffix h.chutes (fun _ => List.suffix_rfl) (fun k e he => ?next) (fun e => ?place)
    (h.waitingNodup.sublist (List.erase_sublist.map _)) fun e => ?desc
  case next =>
    rw [hdesc, if_neg]
    rintro rfl
    rcases ((chute k).mem_sequence _).mp he with hin | hin
    · cases (h.active_state hin).symm.trans hclosed
    · cases (h.queue_state hin).symm.trans hclosed
  case place =>
    obtain ⟨hq, ha, hc⟩ := h.places e
    rw [hdesc]
    by_cases he : w.descriptor = e
    · subst he
      rw [hclosed] at hq ha
      have hleft : ∀ w' ∈ waiting.erase w, w'.descriptor ≠ w.descriptor := fun w' hw' hne => by
        have := hinj w' (List.mem_of_mem_erase hw') hne
        exact not_mem_erase_of_nodup_map h.waitingNodup w (this ▸ hw')
      rw [if_pos rfl]
      exact ⟨by simpa using hq, by simpa using ha, by simpa using hleft⟩
    · rw [if_neg he]
      refine ⟨hq, ha, hc.trans (exists_congr fun w' => and_congr_left fun hd => ?_)⟩
      exact (List.mem_erase_of_ne fun hww : w' = w => he (hww ▸ hd)).symm
  case desc =>
    rw [hdesc]
    split
    · exact ⟨fun _ => rfl, by simp, by simp, by simp⟩
    · exact h.descriptors e

end Chains

end Sys2Proof.Machine
end

section
/-! What a CHAIN_LOAD keeps of the chains, and what issued and settled orders keep of the tallies and of the contexts they name
(R77, R78, R82, R106, R107, R110 to R112). -/

namespace Sys2Proof.Machine

/-! ### A chain that grows (R104, R106, R107) -/

/-- A tote entry whose fields are in range (R106). -/
def ToteEntry.InRange (e : ToteEntry) : Prop := 1 ≤ e.capacity ∧ e.capacity ≤ 60 ∧ 100 ≤ e.weightLimit ∧ e.weightLimit ≤ 30000

theorem ToteEntry.descriptor_sound {e : ToteEntry} (h : e.InRange) (next : Option DescriptorIndex) :
    DescriptorSound (e.descriptor next) := by
  obtain ⟨hlow, hhigh, hmin, hmax⟩ := h
  exact ⟨fun hs => (nomatch hs), fun _ => ⟨rfl, rfl, rfl, rfl, rfl, rfl⟩, by simp [ToteEntry.descriptor],
    fun _ => ⟨hlow, hhigh, hmin, hmax, Nat.zero_le _⟩⟩

/-- A list without repetition has its last element in its last place alone. -/
theorem getLast?_eq_some_getElem_iff {α : Type} {l : List α} (hl : l.Nodup) {n : Nat} (hn : n < l.length) :
    l.getLast? = some l[n] ↔ n + 1 = l.length := by
  rw [List.getLast?_eq_getElem?, ← List.getElem?_eq_getElem hn, List.getElem?_inj (by omega) hl]
  omega

section Load

variable {chute chute' : Chute → ChuteRecord} {descriptor descriptor' : DescriptorIndex → Descriptor}
  {waiting : List WaitingTote} (h : ChainsSound chute descriptor waiting)

include h

/-- FREE descriptors that take entries and are linked behind a sequence lengthen it. -/
theorem ChainsSound.loaded {k : Chute} {ds : List DescriptorIndex} (hfree : ∀ d ∈ ds, (descriptor d).state = .free)
    (hnodup : ds.Nodup) (hk : chute' k = { chute k with chain := (chute k).chain ++ ds })
    (hother : ∀ j, j ≠ k → chute' j = chute j)
    (htaken : ∀ (n : Nat) (hn : n < ds.length), ∃ e : ToteEntry, e.InRange ∧ descriptor' ds[n] = e.descriptor ds[n + 1]?)
    (hkept : ∀ d, d ∉ ds → descriptor' d =
      if (chute k).lastOfSequence = some d then { descriptor d with next := ds.head? } else descriptor d) :
    ChainsSound chute' descriptor' waiting := by
  have hseq : (chute' k).sequence = (chute k).sequence ++ ds := by
    rw [hk]
    exact (List.append_assoc ..).symm
  have hqueue : (chute' k).queue = (chute k).queue ++ ds := by
    rw [hk]
    exact (List.append_assoc ..).symm
  have hactive : ∀ j, (chute' j).active = (chute j).active := fun j => by
    by_cases hj : j = k
    · rw [hj, hk]
    · rw [hother j hj]
  have hout : ∀ d ∈ ds, ∀ j, d ∉ (chute j).sequence := fun d hd j hin => by
    rcases ((chute j).mem_sequence d).mp hin with hin | hin
    · cases (h.active_state hin).symm.trans (hfree d hd)
    · cases (h.queue_state hin).symm.trans (hfree d hd)
  have hstate : ∀ d, d ∉ ds → (descriptor' d).state = (descriptor d).state := fun d hd => by
    rw [hkept d hd]
    split <;> rfl
  have hmem : ∀ j d, d ∉ ds → (d ∈ (chute' j).queue ↔ d ∈ (chute j).queue) := fun j d hd => by
    by_cases hj : j = k
    · rw [hj, hqueue, List.mem_append, or_iff_left hd]
    · rw [hother j hj]
  have hlast := (h.chutes k).lastOfSequence_eq
  constructor
  case chutes =>
    intro j
    by_cases hj : j = k
    · rw [hj, hk]
      exact h.chutes k
    · exact hother j hj ▸ h.chutes j
  case sequenceNodup =>
    intro j
    by_cases hj : j = k
    · rw [hj, hseq]
      exact List.nodup_append.mpr ⟨h.sequenceNodup k, hnodup, fun d hd e he hde => hout e he k (hde ▸ hd)⟩
    · exact hother j hj ▸ h.sequenceNodup j
  case sequenceDisjoint =>
    have hfrom : ∀ j d, d ∈ (chute' j).sequence → d ∈ (chute j).sequence ∨ j = k ∧ d ∈ ds := fun j d hd => by
      by_cases hj : j = k
      · rw [hj, hseq] at hd
        exact (List.mem_append.mp hd).imp (hj ▸ id) (⟨hj, ·⟩)
      · exact .inl (hother j hj ▸ hd)
    intro i j d hne hi hj
    rcases hfrom i d hi with hi | ⟨rfl, hd⟩ <;> rcases hfrom j d hj with hj | ⟨rfl, hd'⟩
    · exact h.sequenceDisjoint i j d hne hi hj
    · exact hout d hd' i hi
    · exact hout d hd j hj
    · exact hne rfl
  case links =>
    intro j n hn
    by_cases hj : j = k
    · subst hj
      simp only [hseq] at hn ⊢
      by_cases hold : n < (chute j).sequence.length
      · have hin := List.getElem_mem hold
        rw [List.getElem_append_left hold, hkept _ (fun hd => hout _ hd j hin), hlast]
        by_cases hend : n + 1 = (chute j).sequence.length
        · rw [if_pos ((getLast?_eq_some_getElem_iff (h.sequenceNodup j) hold).mpr hend),
            List.getElem?_append_right (Nat.le_of_eq hend.symm), ← hend, Nat.sub_self, List.head?_eq_getElem?]
        · rw [if_neg (mt (getLast?_eq_some_getElem_iff (h.sequenceNodup j) hold).mp hend),
            List.getElem?_append_left (by omega)]
          exact h.links j n hold
      · have hnew : n - (chute j).sequence.length < ds.length := by
          rw [List.length_append] at hn
          omega
        obtain ⟨e, -, he⟩ := htaken _ hnew
        rw [List.getElem_append_right (Nat.le_of_not_lt hold), he, List.getElem?_append_right (by omega),
          Nat.sub_add_comm (Nat.le_of_not_lt hold)]
        rfl
    · simp only [hother j hj] at hn ⊢
      have hin := List.getElem_mem hn
      have hnotLast : (chute k).lastOfSequence ≠ some (chute j).sequence[n] := fun hl =>
        hj (h.eq_of_mem hin (List.mem_of_getLast? (hlast ▸ hl)))
      rw [hkept _ (fun hd => hout _ hd j hin), if_neg hnotLast]
      exact h.links j n hn
  case places =>
    intro d
    obtain ⟨hq, ha, hc⟩ := h.places d
    by_cases hd : d ∈ ds
    · obtain ⟨n, hn, rfl⟩ := List.getElem_of_mem hd
      obtain ⟨e, -, he⟩ := htaken n hn
      rw [hfree _ hd] at ha hc
      rw [he]
      refine ⟨⟨fun _ => ⟨k, by rw [hqueue]; exact List.mem_append_right _ hd⟩, fun _ => rfl⟩, ?_, ?_⟩
      · simp only [hactive, ← ha]
        exact ⟨fun hs => (nomatch hs), fun hs => (nomatch hs)⟩
      · rw [← hc]
        exact ⟨fun hs => (nomatch hs), fun hs => (nomatch hs)⟩
    · rw [hstate d hd]
      exact ⟨hq.trans (exists_congr fun j => (hmem j d hd).symm), by simp only [hactive, ha], hc⟩
  case waitingNodup => exact h.waitingNodup
  case descriptors =>
    intro d
    by_cases hd : d ∈ ds
    · obtain ⟨n, hn, rfl⟩ := List.getElem_of_mem hd
      obtain ⟨e, hr, he⟩ := htaken n hn
      exact he ▸ ToteEntry.descriptor_sound hr _
    · rw [hkept d hd]
      split
      · obtain ⟨hf, hfresh, hcause, hranges⟩ := h.descriptors d
        next hl =>
          have hin : d ∈ (chute k).sequence := List.mem_of_getLast? (hlast ▸ hl)
          have hused : (descriptor d).state ≠ .free := by
            rcases ((chute k).mem_sequence d).mp hin with hin | hin
            · rw [h.active_state hin]; decide
            · rw [h.queue_state hin]; decide
          exact ⟨fun hs => absurd hs hused, hfresh, hcause, hranges⟩
      · exact h.descriptors d

end Load

/-! ### Tallies (R77, R78, R110 to R112) -/

theorem mem_ordersOn {orders : List DivertOrder} {k : Chute} {o : DivertOrder} :
    o ∈ ordersOn orders k ↔ o ∈ orders ∧ o.chute = k := by
  simp [ordersOn]

theorem ordersOn_eq_nil {orders : List DivertOrder} {k : Chute} : ordersOn orders k = [] ↔ ∀ o ∈ orders, o.chute ≠ k := by
  simp [ordersOn]

theorem State.ordersAt_eq (s : State) (k : Chute) : s.ordersAt k = (ordersOn s.orders k).length := List.countP_eq_length_filter

theorem State.ordersAt_eq_zero (s : State) (k : Chute) : s.ordersAt k = 0 ↔ ordersOn s.orders k = [] := by
  rw [State.ordersAt_eq, List.length_eq_zero_iff]

theorem ordersOn_erase (orders : List DivertOrder) (o : DivertOrder) (k : Chute) :
    ordersOn (orders.erase o) k = (ordersOn orders k).erase o := (List.erase_filter ..).symm

theorem ordersOn_erase_of_ne {o : DivertOrder} {k : Chute} (orders : List DivertOrder) (h : o.chute ≠ k) :
    ordersOn (orders.erase o) k = ordersOn orders k := by
  rw [ordersOn_erase, List.erase_of_not_mem fun hin => h (mem_ordersOn.mp hin).2]

theorem ordersOn_append (orders : List DivertOrder) (o : DivertOrder) (k : Chute) :
    ordersOn (orders ++ [o]) k = if o.chute = k then ordersOn orders k ++ [o] else ordersOn orders k := by
  by_cases h : o.chute = k <;> simp [ordersOn, h]

theorem orderGrams_erase {os : List DivertOrder} {o : DivertOrder} (ho : o ∈ os) :
    orderGrams os = o.grams + orderGrams (os.erase o) := by
  rw [orderGrams, ((List.perm_cons_erase ho).map _).sum_nat, List.map_cons, List.sum_cons, orderGrams]

/-- A settled order takes its reservation from the tally, whether it is counted on the tote or not (R111, R112). -/
theorem TallySound.settled {D D' : Descriptor} {os : List DivertOrder} {o : DivertOrder} (h : TallySound D os) (ho : o ∈ os)
    (hitems : D'.reservedItems = D.reservedItems - 1) (hgrams : D'.reservedGrams = D.reservedGrams - o.grams)
    (hcapacity : D'.capacity = D.capacity) (hlimit : D'.weightLimit = D.weightLimit)
    (hcount : D'.committedItems ≤ D.committedItems + 1) (hweight : D'.committedGrams ≤ D.committedGrams + o.grams) :
    TallySound D' (os.erase o) := by
  obtain ⟨hri, hrg, hci, hcg⟩ := h
  have hsum := orderGrams_erase ho
  have hpos := List.length_pos_of_mem ho
  have hlen := List.length_erase_of_mem ho
  refine ⟨?_, ?_, ?_, ?_⟩ <;> omega

/-- A reservation that the tote has room for joins the tally (R82, R110). -/
theorem TallySound.reserved {D : Descriptor} {os : List DivertOrder} {o : DivertOrder} (h : TallySound D os)
    (hroom : D.committedItems + D.reservedItems < D.capacity)
    (hweight : D.committedGrams + D.reservedGrams + o.grams ≤ D.weightLimit) :
    TallySound (D.reserve o.grams) (os ++ [o]) := by
  obtain ⟨hri, hrg, hci, hcg⟩ := h
  refine ⟨?_, ?_, ?_, ?_⟩ <;> simp [Descriptor.reserve, orderGrams] at * <;> omega

section Orders

variable {chute chute' : Chute → ChuteRecord} {descriptor descriptor' : DescriptorIndex → Descriptor}
  {orders : List DivertOrder} (h : OrdersSound chute descriptor orders)

include h

/-- The order list stays, with the totes in place that its orders are on. -/
theorem OrdersSound.of_totes (hactive : ∀ o ∈ orders, (chute' o.chute).active = (chute o.chute).active)
    (htally : ∀ k d, (chute' k).active = some d → TallySound (descriptor' d) (ordersOn orders k)) :
    OrdersSound chute' descriptor' orders :=
  ⟨fun o ho => (hactive o ho).trans (h.active o ho), htally, h.two, h.one⟩

/-- A chute with no tote in place has no order outstanding (R78). -/
theorem OrdersSound.ordersOn_of_noTote {k : Chute} (hnone : (chute k).active = none) : ordersOn orders k = [] :=
  ordersOn_eq_nil.mpr fun o ho hk => by
    have := h.active o ho
    rw [hk, hnone] at this
    cases this

/-- An order is settled (R78, R111, R112). -/
theorem OrdersSound.settled {o : DivertOrder} (ho : o ∈ orders)
    (hinj : ∀ k, (chute k).active = some o.descriptor → k = o.chute)
    (hother : ∀ e, e ≠ o.descriptor → descriptor' e = descriptor e)
    (htally : ∀ os, o ∈ os → TallySound (descriptor o.descriptor) os → TallySound (descriptor' o.descriptor) (os.erase o)) :
    OrdersSound chute descriptor' (orders.erase o) where
  active o' ho' := h.active o' (List.mem_of_mem_erase ho')
  tally k d ha := by
    by_cases hd : d = o.descriptor
    · subst hd
      obtain rfl := hinj k ha
      rw [ordersOn_erase]
      exact htally _ (mem_ordersOn.mpr ⟨ho, rfl⟩) (h.tally _ _ ha)
    · have hk : o.chute ≠ k := fun hk => hd (Option.some.inj (ha.symm.trans (hk ▸ h.active o ho)))
      rw [ordersOn_erase_of_ne _ hk, hother d hd]
      exact h.tally k d ha
  two k := by
    rw [ordersOn_erase]
    exact Nat.le_trans List.erase_sublist.length_le (h.two k)
  one := h.one.sublist (List.erase_sublist.map _)

/-- An order is issued (R82). -/
theorem OrdersSound.issued {o : DivertOrder} (hinj : ∀ k, (chute k).active = some o.descriptor → k = o.chute)
    (ha : (chute o.chute).active = some o.descriptor) (htwo : (ordersOn orders o.chute).length < 2)
    (htray : ∀ o' ∈ orders, o'.tray ≠ o.tray) (hother : ∀ e, e ≠ o.descriptor → descriptor' e = descriptor e)
    (htally : ∀ os, TallySound (descriptor o.descriptor) os → TallySound (descriptor' o.descriptor) (os ++ [o])) :
    OrdersSound chute descriptor' (orders ++ [o]) where
  active o' ho' := by
    rcases List.mem_append.mp ho' with ho' | ho'
    · exact h.active o' ho'
    · rw [List.mem_singleton.mp ho', ha]
  tally k d hk := by
    rw [ordersOn_append]
    by_cases hd : d = o.descriptor
    · subst hd
      rw [if_pos (hinj k hk).symm]
      exact htally _ (h.tally k _ hk)
    · rw [if_neg fun hok : o.chute = k => hd (Option.some.inj (hk.symm.trans (hok ▸ ha))), hother d hd]
      exact h.tally k d hk
  two k := by
    rw [ordersOn_append]
    split
    · next hk =>
      rw [← hk, List.length_append]
      exact htwo
    · exact h.two k
  one := by
    rw [List.map_append, List.nodup_append]
    refine ⟨h.one, List.pairwise_singleton _ _, fun t ht t' ht' => ?_⟩
    obtain ⟨o', ho', rfl⟩ := List.mem_map.mp ht
    rw [List.mem_singleton.mp ht']
    exact htray o' ho'

end Orders

/-! ### Contexts that orders name (R77) -/

/-- A context plays the same part for the order list. -/
structure SameOrder (c c' : Context) : Prop where
  ordered : c'.state = .ordered ↔ c.state = .ordered
  tray : c.state = .ordered → c'.tray = c.tray

theorem SameOrder.refl (c : Context) : SameOrder c c := ⟨Iff.rfl, fun _ => rfl⟩

/-- Neither context is ORDERED. -/
theorem SameOrder.of_not {c c' : Context} (h : c.state ≠ .ordered) (h' : c'.state ≠ .ordered) : SameOrder c c' :=
  ⟨iff_of_false h' h, fun ho => absurd ho h⟩

section Named

variable {context context' : ContextIndex → Context} {orders : List DivertOrder}

theorem NamedBut.of_same {c : Option ContextIndex} (h : NamedBut c context orders)
    (hsame : ∀ i, SameOrder (context i) (context' i)) : NamedBut c context' orders where
  ordered o ho i hi := by
    obtain ⟨hc, hstate, htray⟩ := h.ordered o ho i hi
    exact ⟨hc, (hsame i).ordered.mpr hstate, ((hsame i).tray hstate).trans htray⟩
  named i hc hi := h.named i hc ((hsame i).ordered.mp hi)

/-- A context that is not ORDERED is named by no entry. -/
theorem NamedBut.of_not_ordered (h : NamedBut none context orders) {i : ContextIndex} (hi : (context i).state ≠ .ordered) :
    NamedBut (some i) context orders where
  ordered o ho j hj := by
    obtain ⟨-, hstate, htray⟩ := h.ordered o ho j hj
    exact ⟨fun hij => hi (Option.some.inj hij ▸ hstate), hstate, htray⟩
  named j _ hj := h.named j (by simp) hj

/-- The context left without an entry leaves ORDERED. -/
theorem NamedBut.leaves {i : ContextIndex} (h : NamedBut (some i) context orders) (hi : (context' i).state ≠ .ordered)
    (hother : ∀ j, j ≠ i → context' j = context j) : NamedBut none context' orders where
  ordered o ho j hj := by
    obtain ⟨hc, hstate, htray⟩ := h.ordered o ho j hj
    rw [hother j fun hji => hc (hji ▸ rfl)]
    exact ⟨by simp, hstate, htray⟩
  named j _ hj := by
    have hji : j ≠ i := fun hji => hi (hji ▸ hj)
    rw [hother j hji] at hj
    exact h.named j (fun he => hji (Option.some.inj he).symm) hj

/-- A settled order leaves its context without an entry. -/
theorem NamedBut.settled (h : NamedBut none context orders) (hone : (orders.map DivertOrder.tray).Nodup) {o : DivertOrder}
    (ho : o ∈ orders) : NamedBut o.context context (orders.erase o) where
  ordered o' ho' i hi := by
    have hin := List.mem_of_mem_erase ho'
    obtain ⟨-, hstate, htray⟩ := h.ordered o' hin i hi
    refine ⟨fun hc => ?_, hstate, htray⟩
    have heq : o' = o := eq_of_mem_of_nodup_map hone hin ho (htray.symm.trans (h.ordered o ho i hc).2.2)
    exact not_mem_erase_of_nodup_map hone o (heq ▸ ho')
  named i hc hi := by
    obtain ⟨o', ho', hi'⟩ := h.named i (by simp) hi
    exact ⟨o', (List.mem_erase_of_ne fun he : o' = o => hc (he ▸ hi')).mpr ho', hi'⟩

/-- An order is issued for a tray with no context. -/
theorem NamedBut.issued_untracked (h : NamedBut none context orders) {o : DivertOrder} (hc : o.context = none) :
    NamedBut none context (orders ++ [o]) where
  ordered o' ho' i hi := by
    rcases List.mem_append.mp ho' with ho' | ho'
    · exact h.ordered o' ho' i hi
    · rw [List.mem_singleton.mp ho', hc] at hi
      cases hi
  named i hi hs := by
    obtain ⟨o', ho', hi'⟩ := h.named i hi hs
    exact ⟨o', List.mem_append_left _ ho', hi'⟩

/-- An order is issued for a context that becomes ORDERED. -/
theorem NamedBut.issued (h : NamedBut none context orders) {o : DivertOrder} {i : ContextIndex} (hc : o.context = some i)
    (hi : (context i).state ≠ .ordered) (hstate : (context' i).state = .ordered) (htray : (context' i).tray = o.tray)
    (hother : ∀ j, j ≠ i → context' j = context j) : NamedBut none context' (orders ++ [o]) where
  ordered o' ho' j hj := by
    rcases List.mem_append.mp ho' with ho' | ho'
    · obtain ⟨hn, hs, ht⟩ := h.ordered o' ho' j hj
      rw [hother j fun hji => hi (hji ▸ hs)]
      exact ⟨hn, hs, ht⟩
    · rw [List.mem_singleton.mp ho', hc] at hj
      cases hj
      rw [List.mem_singleton.mp ho']
      exact ⟨by simp, hstate, htray⟩
  named j hn hj := by
    by_cases hji : j = i
    · exact ⟨o, List.mem_append_right _ (List.mem_singleton.mpr rfl), hji ▸ hc⟩
    · rw [hother j hji] at hj
      obtain ⟨o', ho', hj'⟩ := h.named j hn hj
      exact ⟨o', List.mem_append_left _ ho', hj'⟩

end Named

end Sys2Proof.Machine
end

section
/-! The tote chain unit's operations and the settling and issuing of orders keep the laws of totes and orders (R77, R78, R82, R104
to R120). -/

namespace Sys2Proof.Machine

/-! ### Changes that the laws allow -/

theorem HeldBut.weaken {k : Option Chute} {chute : Chute → ChuteRecord} {orders : List DivertOrder}
    (h : HeldBut none chute orders) : HeldBut k chute orders := fun j _ => h j (by simp)

/-- A chute that is not CLOSING needs no exception. -/
theorem HeldBut.settle {k : Chute} {chute : Chute → ChuteRecord} {orders : List DivertOrder} (h : HeldBut (some k) chute orders)
    (hk : (chute k).state = .closing → ordersOn orders k ≠ []) : HeldBut none chute orders := fun j _ hj => by
  by_cases hjk : j = k
  · exact hjk ▸ hk (hjk ▸ hj)
  · exact h j (fun he => hjk (Option.some.inj he).symm) hj

section Changes

variable {s : State} {x : Option Chute} {c : Option ContextIndex} (hs : TotesSoundBut x c s)

include hs

theorem TotesSoundBut.offerEvent (a : Advisory) : TotesSoundBut x c (s.offerEvent a) := by
  rw [State.offerEvent_frame]
  exact hs

theorem TotesSoundBut.chuteEvent (k : Chute) (d : ChuteDetail) : TotesSoundBut x c (s.chuteEvent k d) := hs.offerEvent _

theorem TotesSoundBut.sendSorter (f : SorterFrame) : TotesSoundBut x c (s.sendSorter f) := by
  rw [State.sendSorter_frame]
  exact hs

/-- A chute's record changes, with its tote in place and its queue kept. -/
theorem TotesSoundBut.modChute {k : Chute} {f : ChuteRecord → ChuteRecord} (hsound : ChuteSound (f (s.chute k)))
    (hactive : (f (s.chute k)).active = (s.chute k).active) (hqueue : (f (s.chute k)).queue = (s.chute k).queue)
    (hclosing : (f (s.chute k)).state = .closing → (s.chute k).state = .closing ∨ ordersOn s.orders k ≠ []) :
    TotesSoundBut x c (s.modChute k f) := by
  obtain ⟨hcontexts, hchains, htallies, hheld, hnamed⟩ := hs
  have hall : ∀ P : Chute → ChuteRecord → Prop, P k (f (s.chute k)) → (∀ j, j ≠ k → P j (s.chute j)) →
      ∀ j, P j ((s.modChute k f).chute j) := fun P hk hj j => by
    rw [State.chute_modChute]
    split
    · next hkj => exact hkj ▸ hk
    · next hkj => exact hj j (Ne.symm hkj)
  have hact := hall (fun j r => r.active = (s.chute j).active) hactive fun _ _ => rfl
  refine ⟨hcontexts, hchains.of_chutes (hall (fun _ => ChuteSound) hsound fun j _ => hchains.chutes j) hact
    (hall (fun j r => r.queue = (s.chute j).queue) hqueue fun _ _ => rfl),
    htallies.of_totes (fun o _ => hact o.chute) (fun j d hj => htallies.tally j d (hact j ▸ hj)), fun j hx => ?_, hnamed⟩
  refine hall (fun j r => x ≠ some j → r.state = .closing → ordersOn s.orders j ≠ []) (fun hx hst => ?_)
    (fun j _ hx => hheld j hx) j hx
  exact (hclosing hst).elim (hheld k hx) id

/-- A flag of a chute is written (R121, R122). -/
theorem TotesSoundBut.modChute_flags {k : Chute} {f : ChuteRecord → ChuteRecord}
    (h : f (s.chute k) = { s.chute k with disabled := (f (s.chute k)).disabled, jammed := (f (s.chute k)).jammed }) :
    TotesSoundBut x c (s.modChute k f) := by
  obtain ⟨-, hchains, -⟩ := id hs
  refine hs.modChute ?_ ?_ ?_ ?_ <;> rw [h]
  · exact hchains.chutes k
  · rfl
  · exact .inl

/-- A chute with nothing in place takes the head of its chain (R108). -/
theorem TotesSoundBut.enterSwapping {k : Chute} (hactive : (s.chute k).active = none) (hpending : (s.chute k).pending = none) :
    TotesSoundBut x c (s.enterSwapping k) := by
  cases hchain : (s.chute k).chain with
  | nil =>
    simp only [State.enterSwapping, hchain]
    exact hs
  | cons d rest =>
    rw [State.enterSwapping_eq hchain]
    refine TotesSoundBut.offerEvent (hs.modChute ?_ ?_ ?_ ?_) _
    · simp [ChuteSound, ChuteRecord.swappingOn]
    · exact hactive.symm
    · simp [ChuteRecord.queue, ChuteRecord.swappingOn, hpending, hchain]
    · simp [ChuteRecord.swappingOn]

/-- The counts of a tote in place change, as far as its tally allows. -/
theorem TotesSoundBut.modDescriptor {d : DescriptorIndex} {f : Descriptor → Descriptor}
    (hstate : (f (s.descriptor d)).state = (s.descriptor d).state) (hnext : (f (s.descriptor d)).next = (s.descriptor d).next)
    (hsound : DescriptorSound (f (s.descriptor d)))
    (htally : ∀ os, TallySound (s.descriptor d) os → TallySound (f (s.descriptor d)) os) :
    TotesSoundBut x c (s.modDescriptor d f) := by
  obtain ⟨hcontexts, hchains, htallies, hheld, hnamed⟩ := hs
  have hall : ∀ P : DescriptorIndex → Descriptor → Prop, P d (f (s.descriptor d)) → (∀ e, P e (s.descriptor e)) →
      ∀ e, P e ((s.modDescriptor d f).descriptor e) := fun P hd he e => by
    rw [State.descriptor_modDescriptor]
    split
    · next hde => exact hde ▸ hd
    · exact he e
  refine ⟨hcontexts, hchains.of_descriptors (hall (fun e D => D.state = (s.descriptor e).state) hstate fun _ => rfl)
    (hall (fun e D => D.next = (s.descriptor e).next) hnext fun _ => rfl)
    (hall (fun _ => DescriptorSound) hsound hchains.descriptors), htallies.of_totes (fun _ _ => rfl) fun k e hk => ?_,
    hheld, hnamed⟩
  exact hall (fun e D => ∀ os, TallySound (s.descriptor e) os → TallySound D os) htally (fun _ _ => id) e _
    (htallies.tally k e hk)

/-- A stray is counted on the tote in place (R123). -/
theorem TotesSoundBut.stray (k : Chute) : TotesSoundBut x c (s.stray k).1 := by
  obtain ⟨-, hchains, -⟩ := id hs
  cases ha : (s.chute k).active with
  | none =>
    rw [State.stray_noTote ha]
    exact hs
  | some d =>
    have hactive := hchains.active_state ha
    obtain ⟨-, -, hcause, hranges⟩ := hchains.descriptors d
    rw [State.stray_eq ha]
    refine hs.modDescriptor rfl rfl ⟨fun h => ?_, fun h => ?_, hcause, fun h => ?_⟩ fun os h => h
    · cases hactive.symm.trans h
    · cases hactive.symm.trans h
    · obtain ⟨hlow, hhigh, hmin, hmax, -⟩ := hranges h
      exact ⟨hlow, hhigh, hmin, hmax, by dsimp only; split <;> omega⟩

end Changes

/-! ### A tote that closes (R113 to R118) -/

/-- The state once the tote in place at chute k has closed, with the chute EXHAUSTED, before its event and its next tote. -/
def State.toteRetired (s : State) (k : Chute) (d : DescriptorIndex) (cause : CloseCause) : State :=
  (s.closeDescriptor k d cause).modChute k (fun c => { c with state := .exhausted, active := none, pendingCause := none })

@[simp] theorem State.toteRetired_chute (s : State) (k j : Chute) (d : DescriptorIndex) (cause : CloseCause) :
    (s.toteRetired k d cause).chute j =
      if k = j then { s.chute k with state := .exhausted, active := none, pendingCause := none } else s.chute j := by
  simp only [State.toteRetired, State.chute_modChute, State.closeDescriptor_chute]

theorem State.toteRetired_sequences (s : State) (k : Chute) (d : DescriptorIndex) (cause : CloseCause) :
    SequencesMoved s (s.toteRetired k d cause) := (s.closeDescriptor_sequences k d cause).trans rfl

/-- A closed descriptor is freed, or waits with its record (R118). -/
theorem State.closeDescriptor_self (s : State) (k : Chute) (d : DescriptorIndex) (cause : CloseCause) :
    (s.closeDescriptor k d cause).descriptor d = {} ∧ (s.closeDescriptor k d cause).waitingTotes = s.waitingTotes ∨
      ∃ cause' w, (s.closeDescriptor k d cause).descriptor d =
          { s.descriptor d with state := .closed, closeCause := some cause' } ∧ w.descriptor = d ∧
        (s.closeDescriptor k d cause).waitingTotes = s.waitingTotes ++ [w] := by
  rw [State.closeDescriptor_eq]
  split
  · exact .inl ⟨State.descriptor_modDescriptor_self _ d (fun _ => {}), rfl⟩
  · exact .inr ⟨cause, ⟨d, _⟩, State.descriptor_modDescriptor_self .., rfl, rfl⟩

section Closing

variable {s : State} {k : Chute} {c : Option ContextIndex} (hs : TotesSoundBut (some k) c s)

include hs

theorem TotesSoundBut.settleChute (hk : (s.chute k).state = .closing → ordersOn s.orders k ≠ []) : TotesSoundBut none c s := by
  obtain ⟨hcontexts, hchains, htallies, hheld, hnamed⟩ := hs
  exact ⟨hcontexts, hchains, htallies, hheld.settle hk, hnamed⟩

theorem TotesSoundBut.toteRetired (hnone : ordersOn s.orders k = []) {d : DescriptorIndex} (ha : (s.chute k).active = some d)
    (cause : CloseCause) : TotesSoundBut none c (s.toteRetired k d cause) := by
  obtain ⟨hcontexts, hchains, htallies, hheld, hnamed⟩ := hs
  have hmoved := s.toteRetired_sequences k d cause
  unfold SequencesMoved at hmoved
  have horders : (s.toteRetired k d cause).orders = s.orders := by rw [hmoved]
  have hcontext : (s.toteRetired k d cause).context = s.context := by rw [hmoved]; rfl
  have hk : (s.toteRetired k d cause).chute k =
      { s.chute k with state := .exhausted, active := none, pendingCause := none } := by rw [State.toteRetired_chute, if_pos rfl]
  have hother : ∀ j, j ≠ k → (s.toteRetired k d cause).chute j = s.chute j := fun j hj => by
    rw [State.toteRetired_chute, if_neg (Ne.symm hj)]
  have hsame : ∀ e, e ≠ d → (s.toteRetired k d cause).descriptor e = s.descriptor e := fun e he =>
    s.closeDescriptor_other k (Ne.symm he) cause
  refine ⟨?contexts, hchains.retires ha hk hother hsame (s.closeDescriptor_self k d cause), ?tallies, ?held, ?named⟩
  case contexts => exact Move.keeps_contextsSound (.aside ((Aside.closeDescriptor s k d cause).trans (.modChute _ _ _))) hcontexts
  case tallies =>
    rw [horders]
    refine htallies.of_totes (fun o ho => ?_) fun j e hj => ?_
    · rw [hother _ (ordersOn_eq_nil.mp hnone o ho)]
    · have hjk : j ≠ k := fun he => by rw [he, hk] at hj; cases hj
      rw [hother j hjk] at hj
      rw [hsame e fun he => hjk (hchains.active_inj (he ▸ hj) ha)]
      exact htallies.tally j e hj
  case held =>
    intro j _ hj
    have hjk : j ≠ k := fun he => by rw [he, hk] at hj; cases hj
    rw [hother j hjk] at hj
    rw [horders]
    exact hheld j (fun he => hjk (Option.some.inj he).symm) hj
  case named =>
    rw [hcontext, horders]
    exact hnamed

/-- The tote of a chute with no order outstanding closes (R117). -/
theorem TotesSoundBut.closeTote (hnone : ordersOn s.orders k = []) (cause : CloseCause) :
    TotesSoundBut none c (s.closeTote k cause) := by
  obtain ⟨-, hchains, -⟩ := id hs
  cases ha : (s.chute k).active with
  | none =>
    rw [State.closeTote_noTote ha]
    refine hs.settleChute fun hclosing => ?_
    have hsome := (hchains.chutes k).2.1.mpr (.inr hclosing)
    rw [ha] at hsome
    cases hsome
  | some d =>
    have hretired := hs.toteRetired hnone ha cause
    have hexhausts := State.closeTote_exhausts ha cause
    cases hchain : (s.chute k).chain with
    | nil => exact hexhausts (.inr hchain) ▸ hretired.chuteEvent k .exhausted
    | cons h rest =>
      cases hflag : (s.descriptor d).continueFlag with
      | false => exact hexhausts (.inl hflag) ▸ hretired.chuteEvent k .exhausted
      | true =>
        have hswaps : (s.closeDescriptor k d cause).modChute k (fun c => c.swappingOn h rest) =
            (s.toteRetired k d cause).modChute k (fun c => c.swappingOn h rest) := by
          rw [State.toteRetired, State.modChute_modChute]
          rfl
        have hk : ((s.toteRetired k d cause).chute k).chain = h :: rest := by simp [hchain]
        rw [State.closeTote_continues ha cause hflag hchain, hswaps, ← State.enterSwapping_eq hk]
        refine hretired.enterSwapping ?_ ?_
        · simp
        · simpa using (hchains.chutes k).pending_of_active ha

/-- The completion test settles a CLOSING chute (R116). -/
theorem TotesSoundBut.completeClosing : TotesSoundBut none c (s.completeClosing k) := by
  obtain ⟨-, hchains, -⟩ := id hs
  by_cases hleft : (s.chute k).state = .closing ∧ ordersOn s.orders k = []
  · obtain ⟨hclosing, hnone⟩ := hleft
    obtain ⟨cause, hcause⟩ := Option.isSome_iff_exists.mp ((hchains.chutes k).2.2.mpr hclosing)
    rw [State.completeClosing_closes hclosing hcause ((s.ordersAt_eq_zero k).mpr hnone)]
    exact hs.closeTote hnone cause
  · rw [State.completeClosing_stays]
    · exact hs.settleChute fun hclosing hnone => hleft ⟨hclosing, hnone⟩
    · rw [ne_eq, ne_eq, State.ordersAt_eq_zero]
      exact Classical.not_and_iff_not_or_not.mp hleft

end Closing

theorem TotesSoundBut.weaken {s : State} {k : Chute} {c : Option ContextIndex} (hs : TotesSoundBut none c s) :
    TotesSoundBut (some k) c s := by
  obtain ⟨hcontexts, hchains, htallies, hheld, hnamed⟩ := hs
  exact ⟨hcontexts, hchains, htallies, hheld.weaken, hnamed⟩

/-- A tote filled to its capacity has no order outstanding (R110). -/
theorem TallySound.nil_of_full {D : Descriptor} {os : List DivertOrder} (h : TallySound D os)
    (hfull : D.committedItems = D.capacity) : os = [] := by
  obtain ⟨hitems, -, hcapacity, -⟩ := h
  exact List.eq_nil_of_length_eq_zero (by omega)

/-- The COUNT test on the tote in place (R113). -/
theorem TotesSoundBut.countTest {s : State} {k : Chute} {d : DescriptorIndex} {c : Option ContextIndex}
    (hs : TotesSoundBut (some k) c s) (ha : (s.chute k).active = some d) : TotesSoundBut (some k) c (s.countTest k d) := by
  obtain ⟨-, -, htallies, -⟩ := id hs
  unfold State.countTest
  split
  · next hfull =>
    have hnone : ordersOn s.orders k = [] := (htallies.tally k d ha).nil_of_full hfull
    split
    · exact (hs.closeTote hnone _).weaken
    · exact (hs.closeTote hnone _).weaken
    · exact hs
  · exact hs

/-! ### Orders settled and issued (R78, R82, R111, R112) -/

section Settling

variable {s : State} (hs : TotesSoundBut none none s) {o : DivertOrder} (ho : o ∈ s.orders)

include hs ho

/-- An entry is removed and its reservation released or committed, before the tests. -/
theorem TotesSoundBut.entrySettled {f : Descriptor → Descriptor}
    (hframe : ∀ D, f D = { D with
      reservedItems := D.reservedItems - 1, reservedGrams := D.reservedGrams - o.grams,
      committedItems := (f D).committedItems, committedGrams := (f D).committedGrams })
    (hcount : ∀ D, (f D).committedItems ≤ D.committedItems + 1)
    (hweight : ∀ D, (f D).committedGrams ≤ D.committedGrams + o.grams) :
    TotesSoundBut (some o.chute) o.context ({ s with orders := s.orders.erase o }.modDescriptor o.descriptor f) := by
  obtain ⟨hcontexts, hchains, htallies, hheld, hnamed⟩ := hs
  have ha := htallies.active o ho
  have hactive := hchains.active_state ha
  have hself : ({ s with orders := s.orders.erase o }.modDescriptor o.descriptor f).descriptor o.descriptor =
      f (s.descriptor o.descriptor) := State.descriptor_modDescriptor_self ..
  have hother : ∀ e, e ≠ o.descriptor →
      ({ s with orders := s.orders.erase o }.modDescriptor o.descriptor f).descriptor e = s.descriptor e := fun e he =>
    (State.descriptor_modDescriptor ..).trans (if_neg (Ne.symm he))
  have hcases : ∀ P : DescriptorIndex → Descriptor → Prop, P o.descriptor (f (s.descriptor o.descriptor)) →
      (∀ e, P e (s.descriptor e)) →
      ∀ e, P e (({ s with orders := s.orders.erase o }.modDescriptor o.descriptor f).descriptor e) := fun P hd he e => by
    by_cases heq : e = o.descriptor
    · rw [heq, hself]
      exact hd
    · rw [hother e heq]
      exact he e
  obtain ⟨-, -, hcause, hranges⟩ := hchains.descriptors o.descriptor
  refine ⟨hcontexts, hchains.of_descriptors (hcases (fun e D => D.state = (s.descriptor e).state) ?state fun _ => rfl)
    (hcases (fun e D => D.next = (s.descriptor e).next) ?next fun _ => rfl)
    (hcases (fun _ => DescriptorSound) ?sound hchains.descriptors),
    htallies.settled ho (fun k hk => hchains.active_inj hk ha) hother fun os hin h => ?tally, fun j hj hclosing => ?held,
    hnamed.settled htallies.one ho⟩
  case state => rw [hframe]
  case next => rw [hframe]
  case sound =>
    rw [hframe]
    exact ⟨fun h => (by cases hactive.symm.trans h), fun h => (by cases hactive.symm.trans h), hcause, hranges⟩
  case tally =>
    rw [hself]
    exact h.settled hin (by rw [hframe]) (by rw [hframe]) (by rw [hframe]) (by rw [hframe]) (hcount _) (hweight _)
  case held =>
    show ordersOn (s.orders.erase o) j ≠ []
    rw [ordersOn_erase_of_ne _ fun he => hj (he ▸ rfl)]
    exact hheld j (by simp) hclosing

/-- An order is settled by a release (R78, R112, R116). -/
theorem TotesSoundBut.settleRelease : TotesSoundBut none o.context (s.settleRelease o) :=
  TotesSoundBut.completeClosing (hs.entrySettled ho (fun _ => rfl) (fun _ => Nat.le_succ _) fun _ => Nat.le_add_right _ _)

/-- An order is settled by a commit (R78, R111, R113, R116). -/
theorem TotesSoundBut.settleCommit : TotesSoundBut none o.context (s.settleCommit o) := by
  obtain ⟨-, -, htallies, -⟩ := id hs
  have hcommitted : TotesSoundBut (some o.chute) o.context (s.committed o) :=
    hs.entrySettled ho (fun _ => rfl) (fun _ => Nat.le_refl _) fun _ => Nat.le_refl _
  exact (hcommitted.countTest (htallies.active o ho)).completeClosing

end Settling

/-- The state once an order's entry is written and its reservation held, before its frame is sent (R82). -/
def State.reservedFor (s : State) (o : DivertOrder) : State :=
  { s with orders := s.orders ++ [o] }.modDescriptor o.descriptor (fun D => D.reserve o.grams)

section Issuing

variable {s : State} {o : DivertOrder} (haccepts : s.accepts o.chute o.grams o.descriptor)

theorem State.reservedFor_self : (s.reservedFor o).descriptor o.descriptor = (s.descriptor o.descriptor).reserve o.grams :=
  State.descriptor_modDescriptor_self ..

theorem State.reservedFor_other {e : DescriptorIndex} (he : e ≠ o.descriptor) :
    (s.reservedFor o).descriptor e = s.descriptor e := (State.descriptor_modDescriptor ..).trans (if_neg (Ne.symm he))

include haccepts

theorem ChainsSound.reservedFor (h : ChainsSound s.chute s.descriptor s.waitingTotes) :
    ChainsSound s.chute (s.reservedFor o).descriptor s.waitingTotes := by
  obtain ⟨-, -, -, -, ha, -⟩ := haccepts
  have hactive := h.active_state ha
  obtain ⟨-, -, hcause, hranges⟩ := h.descriptors o.descriptor
  refine h.of_descriptors (fun e => ?_) (fun e => ?_) fun e => ?_ <;> by_cases he : e = o.descriptor
  · rw [he, State.reservedFor_self]; rfl
  · rw [State.reservedFor_other he]
  · rw [he, State.reservedFor_self]; rfl
  · rw [State.reservedFor_other he]
  · rw [he, State.reservedFor_self]
    exact ⟨fun hs => (by cases hactive.symm.trans hs), fun hs => (by cases hactive.symm.trans hs), hcause, hranges⟩
  · rw [State.reservedFor_other he]
    exact h.descriptors e

theorem OrdersSound.reservedFor (h : OrdersSound s.chute s.descriptor s.orders)
    (hchains : ChainsSound s.chute s.descriptor s.waitingTotes) (htray : ∀ o' ∈ s.orders, o'.tray ≠ o.tray) :
    OrdersSound s.chute (s.reservedFor o).descriptor (s.orders ++ [o]) := by
  obtain ⟨-, -, -, htwo, ha, hroom, hweight⟩ := haccepts
  rw [State.ordersAt_eq] at htwo
  refine h.issued (fun j hj => hchains.active_inj hj ha) ha htwo htray (fun e => State.reservedFor_other) fun os hos => ?_
  rw [State.reservedFor_self]
  exact hos.reserved hroom hweight

end Issuing

/-- An order is issued to an acceptable chute, for a tray without one and its GRADED context, if it has one (R82). -/
theorem TotesSoundBut.issueOrder {s : State} (hs : TotesSoundBut none none s) {t : Tray} {k : Chute} {d : DescriptorIndex}
    {g : Nat} (haccepts : s.accepts k g d) (htray : ∀ o ∈ s.orders, o.tray ≠ t) {c : Option ContextIndex}
    (hc : ∀ i, c = some i → (s.context i).state = .graded ∧ (s.context i).tray = t) :
    TotesSoundBut none none (s.issueOrder t k d g c) := by
  obtain ⟨hcontexts, hchains, htallies, hheld, hnamed⟩ := hs
  generalize ho : DivertOrder.mk t k d g c (s.settings.orderTimeout * 1000) = o
  have hissue : s.issueOrder t k d g c =
      ((s.reservedFor o).sendSorter (.divertOrder t k)).forContext c State.placeOrder := by rw [← ho]; rfl
  have haccepts' : s.accepts o.chute o.grams o.descriptor := by rw [← ho]; exact haccepts
  have hchains' := hchains.reservedFor haccepts'
  have htallies' := htallies.reservedFor haccepts' hchains (by rw [← ho]; exact htray)
  have hheld' : HeldBut none s.chute (s.orders ++ [o]) := fun j hj hclosing hnil =>
    hheld j hj hclosing (ordersOn_eq_nil.mpr fun o' ho' => ordersOn_eq_nil.mp hnil o' (List.mem_append_left _ ho'))
  rw [hissue, State.sendSorter_frame]
  generalize State.sorterTx _ = tx
  cases c with
  | none => exact ⟨hcontexts, hchains', htallies', hheld', hnamed.issued_untracked (by rw [← ho])⟩
  | some i =>
    obtain ⟨hgraded, hti⟩ := hc i rfl
    have hplaced := State.placeOrder_graded (s := { s.reservedFor o with sorterTx := tx }) hgraded
    have hself := hplaced ▸ State.context_modContext_self ..
    refine ⟨(Moves.placeOrder _ i).keeps (fun _ _ => Move.keeps_contextsSound) hcontexts, hchains', htallies', hheld',
      hnamed.issued (by rw [← ho]) (by rw [hgraded]; decide) (congrArg Context.state hself)
        ((congrArg Context.tray hself).trans (hti.trans (by rw [← ho]))) fun j hj => ?_⟩
    show State.context (State.placeOrder _ i) j = _
    rw [hplaced, State.context_modContext, if_neg (Ne.symm hj)]
    rfl

end Sys2Proof.Machine
end

section
/-! The chains' commands, the item context table and the passing of time keep the laws of totes and orders (R3, R4, R20, R21, R27,
R96, R106, R109, R114, R115, R118, R120, R164). -/

namespace Sys2Proof.Machine

/-! ### Commands and signals of the tote chain unit (R106, R109, R114, R115, R120) -/

/-- The entries of a CHAIN_LOAD that passes its checks are in range (R106). -/
theorem parseChainLoad_inRange {ps : List Byte} {k : Chute} {es : List ToteEntry} (h : parseChainLoad ps = some (k, es)) :
    ∀ e ∈ es, e.InRange := by
  obtain ⟨hfits, -, hlen, hentries⟩ := (parseChainLoad_eq_some ps k es).mp h
  obtain ⟨-, -, -, -, -, hfits⟩ := hfits
  intro e he
  obtain ⟨n, hn, rfl⟩ := List.getElem_of_mem he
  obtain ⟨hlow, hhigh, hmin, hmax, -⟩ := hfits n (by omega)
  rw [hentries n hn, entryAt_drop]
  exact ⟨hlow, hhigh, hmin, hmax⟩

section Chains

variable {s : State} (hs : TotesSoundBut none none s)

include hs

/-- An OPEN chute is called to close (R114, R115). -/
theorem TotesSoundBut.callClose {k : Chute} (hopened : (s.chute k).state = .opened) (cause : CloseCause) :
    TotesSoundBut none none (s.callClose k cause) := by
  obtain ⟨-, hchains, -⟩ := id hs
  by_cases hleft : s.ordersAt k = 0
  · rw [State.callClose_settled hleft]
    exact hs.weaken.closeTote ((s.ordersAt_eq_zero k).mp hleft) cause
  · rw [State.callClose_outstanding hleft]
    have hpending := (hchains.chutes k).pending_eq_none (by rw [hopened]; decide)
    have hactive := (hchains.chutes k).2.1.mpr (.inl hopened)
    refine TotesSoundBut.offerEvent (hs.modChute ?_ rfl rfl fun _ => .inr (mt (s.ordersAt_eq_zero k).mpr hleft)) _
    exact ⟨by simp [hpending], by simp [hactive], by simp⟩

/-- The pending tote is placed (R109). -/
theorem TotesSoundBut.placed {k : Chute} {d : DescriptorIndex} (hpending : (s.chute k).pending = some d) (x : BitVec 16) :
    TotesSoundBut none none ((s.modDescriptor d (fun D => { D with
      state := .active, committedItems := 0, committedGrams := 0, reservedItems := 0, reservedGrams := 0, strays := 0,
      readId := x })).modChute k (fun c => { c with state := .opened, active := some d, pending := none })) := by
  obtain ⟨hcontexts, hchains, htallies, hheld, hnamed⟩ := hs
  have hswapping : (s.chute k).state = .swapping := (hchains.chutes k).1.mp (by rw [hpending]; rfl)
  have hnone : (s.chute k).active = none :=
    (hchains.chutes k).active_eq_none (by rw [hswapping]; decide) (by rw [hswapping]; decide)
  have hqueued : (s.descriptor d).state = .queued :=
    hchains.queue_state (k := k) (by simp [ChuteRecord.queue, hpending])
  have hnil := htallies.ordersOn_of_noTote hnone
  obtain ⟨-, -, hcause, hranges⟩ := hchains.descriptors d
  obtain ⟨hlow, hhigh, hmin, hmax, -⟩ := hranges (by rw [hqueued]; decide)
  generalize ht : State.modChute _ k _ = t
  have hk : t.chute k = { s.chute k with state := .opened, active := some d, pending := none } := by
    rw [← ht, State.chute_modChute_self]
    rfl
  have hother : ∀ j, j ≠ k → t.chute j = s.chute j := fun j hj => by
    rw [← ht, State.chute_modChute, if_neg (Ne.symm hj)]
    rfl
  have hself : t.descriptor d = { s.descriptor d with
      state := .active, committedItems := 0, committedGrams := 0, reservedItems := 0, reservedGrams := 0, strays := 0,
      readId := x } := by
    rw [← ht, State.modChute_descriptor, State.descriptor_modDescriptor_self]
  have hsame : ∀ e, e ≠ d → t.descriptor e = s.descriptor e := fun e he => by
    rw [← ht, State.modChute_descriptor, State.descriptor_modDescriptor, if_neg (Ne.symm he)]
  have hrest : ContextsSound t ∧ t.waitingTotes = s.waitingTotes ∧ t.orders = s.orders ∧ t.context = s.context := by
    rw [← ht]
    exact ⟨hcontexts, rfl, rfl, rfl⟩
  obtain ⟨hcontexts', hwaiting, horders, hcontext⟩ := hrest
  rw [TotesSoundBut, hwaiting, horders, hcontext]
  refine ⟨hcontexts', hchains.placed hpending hk hother hsame (by rw [hself]) (by rw [hself]) ?sound,
    htallies.of_totes (fun o ho => ?active) fun j e hj => ?tally, fun j hj hclosing => ?held, hnamed⟩
  case sound =>
    rw [hself]
    refine ⟨fun h => (nomatch h), fun h => (nomatch h), ?_, fun _ => ⟨hlow, hhigh, hmin, hmax, Nat.zero_le _⟩⟩
    rw [hqueued] at hcause
    simpa using hcause
  case active => rw [hother _ (ordersOn_eq_nil.mp hnil o ho)]
  case tally =>
    by_cases hjk : j = k
    · rw [hjk, hk] at hj
      cases hj
      rw [hjk, hnil, hself]
      exact ⟨rfl, rfl, Nat.zero_le _, Nat.zero_le _⟩
    · rw [hother j hjk] at hj
      rw [hsame e fun he => by cases (hchains.active_state (he ▸ hj)).symm.trans hqueued]
      exact htallies.tally j e hj
  case held =>
    have hjk : j ≠ k := fun he => by rw [he, hk] at hclosing; cases hclosing
    exact hheld j hj (hother j hjk ▸ hclosing)

theorem TotesSoundBut.toteInPlace (k : Chute) (x : BitVec 16) : TotesSoundBut none none (toteInPlace k x s) := by
  unfold Machine.toteInPlace
  split
  · next d _ hpending =>
    split
    · exact (hs.placed hpending x).chuteEvent k _
    · exact hs.chuteEvent k _
  · exact hs

/-- The queue of a chute with no tote in place is cleared (R120). -/
theorem TotesSoundBut.queueCleared {t : State} {k : Chute} (hnone : (s.chute k).active = none) (hcontexts : ContextsSound t)
    (hk : t.chute k = { s.chute k with
      state := .unconfigured, active := none, pending := none, chain := [], pendingCause := none })
    (hother : ∀ j, j ≠ k → t.chute j = s.chute j)
    (hdesc : ∀ e, t.descriptor e = if e ∈ (s.chute k).queue then {} else s.descriptor e)
    (hwaiting : t.waitingTotes = s.waitingTotes) (horders : t.orders = s.orders) (hcontext : t.context = s.context) :
    TotesSoundBut none none t := by
  obtain ⟨-, hchains, htallies, hheld, hnamed⟩ := hs
  have hnil := htallies.ordersOn_of_noTote hnone
  rw [TotesSoundBut, hwaiting, horders, hcontext]
  refine ⟨hcontexts, hchains.cleared hnone hk hother hdesc, htallies.of_totes (fun o ho => ?_) fun j e hj => ?_,
    fun j hj hclosing => ?_, hnamed⟩
  · rw [hother _ (ordersOn_eq_nil.mp hnil o ho)]
  · have hjk : j ≠ k := fun he => by rw [he, hk] at hj; cases hj
    rw [hother j hjk] at hj
    rw [hdesc, if_neg fun hin => by cases (hchains.active_state hj).symm.trans (hchains.queue_state hin)]
    exact htallies.tally j e hj
  · have hjk : j ≠ k := fun he => by rw [he, hk] at hclosing; cases hclosing
    exact hheld j hj (hother j hjk ▸ hclosing)

/-- The chain of a chute with no order outstanding is cleared (R120). -/
theorem TotesSoundBut.clearChain {k : Chute} (hleft : s.ordersAt k = 0) : TotesSoundBut none none (s.clearChain k) := by
  have hcontexts : ContextsSound (s.chainCleared k) := by
    obtain ⟨hcontexts, -⟩ := hs
    have hmoved := s.chainCleared_sequences k
    unfold SequencesMoved at hmoved
    rw [hmoved]
    exact hcontexts
  have hmem : ∀ e, ((s.chute k).pending = some e ∨ e ∈ (s.chute k).chain) ↔ e ∈ (s.chute k).queue := fun e => by
    simp [ChuteRecord.queue]
  have hmoved := s.chainCleared_sequences k
  unfold SequencesMoved at hmoved
  have hcleared : TotesSoundBut none none (s.chainCleared k) := by
    cases ha : (s.chute k).active with
    | none =>
      refine hs.queueCleared ha hcontexts (by rw [State.chainCleared_chute, if_pos rfl])
        (fun j hj => by rw [State.chainCleared_chute, if_neg (Ne.symm hj)]) (fun e => ?_) ?_ (by rw [hmoved]) (by rw [hmoved]; rfl)
      · simp only [State.chainCleared_descriptor, hmem, s.toteCleared_none k ha]
      · rw [State.chainCleared_waitingTotes, s.toteCleared_none k ha]
    | some d =>
      have hretired := hs.weaken.toteRetired ((s.ordersAt_eq_zero k).mp hleft) ha .cleared
      have hretiredMoved := s.toteRetired_sequences k d .cleared
      unfold SequencesMoved at hretiredMoved
      refine hretired.queueCleared (k := k) (by simp) hcontexts ?_ (fun j hj => ?_) (fun e => ?_) ?_ ?_ ?_
      · rw [State.chainCleared_chute, if_pos rfl, State.toteRetired_chute, if_pos rfl]
      · rw [State.chainCleared_chute, if_neg (Ne.symm hj), State.toteRetired_chute, if_neg (Ne.symm hj)]
      · rw [State.toteRetired_chute, if_pos rfl]
        simp only [State.chainCleared_descriptor, hmem, s.toteCleared_some k ha]
        rfl
      · rw [State.chainCleared_waitingTotes, s.toteCleared_some k ha]
        rfl
      · rw [hmoved, hretiredMoved]
      · rw [hmoved, hretiredMoved]
        rfl
  rw [State.clearChain_eq]
  split
  · exact hcleared
  · exact hcleared.offerEvent _

/-- A CHAIN_LOAD lengthens the chain of its chute (R104, R106, R107). -/
theorem TotesSoundBut.chainLoaded {k : Chute} {es : List ToteEntry} (hroom : es.length ≤ s.freeDescriptors.length)
    (hrange : ∀ e ∈ es, e.InRange) : TotesSoundBut none none (State.modChute { s with descriptors := s.loadedStore k es } k
      (fun c => { c with chain := c.chain ++ s.freeDescriptors.take es.length })) := by
  obtain ⟨hcontexts, hchains, htallies, hheld, hnamed⟩ := hs
  have hlen : (s.freeDescriptors.take es.length).length = es.length := List.length_take_of_le hroom
  have hfree : ∀ d ∈ s.freeDescriptors.take es.length, (s.descriptor d).state = .free := fun d hd =>
    (s.mem_freeDescriptors d).mp (List.mem_of_mem_take hd)
  have hlast : ∀ d, (s.chute k).lastOfSequence = some d → (s.descriptor d).state ≠ .free := fun d hd => by
    rw [(hchains.chutes k).lastOfSequence_eq] at hd
    rcases ((s.chute k).mem_sequence d).mp (List.mem_of_getLast? hd) with hin | hin
    · rw [hchains.active_state hin]; decide
    · rw [hchains.queue_state hin]; decide
  generalize hds : s.freeDescriptors.take es.length = ds at *
  generalize ht : State.modChute _ k _ = t
  have hk : t.chute k = { s.chute k with chain := (s.chute k).chain ++ ds } := by
    rw [← ht, State.chute_modChute_self]
    rfl
  have hother : ∀ j, j ≠ k → t.chute j = s.chute j := fun j hj => by
    rw [← ht, State.chute_modChute, if_neg (Ne.symm hj)]
    rfl
  have hactive : ∀ j, (t.chute j).active = (s.chute j).active ∧ (t.chute j).state = (s.chute j).state := fun j => by
    by_cases hj : j = k
    · rw [hj, hk]
      exact ⟨rfl, rfl⟩
    · rw [hother j hj]
      exact ⟨rfl, rfl⟩
  have hstore : ∀ d, t.descriptor d = (s.loadedStore k es)[d] := fun d => by rw [← ht]; rfl
  have hkept : ∀ d, d ∉ ds → t.descriptor d =
      if (s.chute k).lastOfSequence = some d then { s.descriptor d with next := ds.head? } else s.descriptor d := fun d hd => by
    rw [hstore, State.loadedStore_other hroom (hds.symm ▸ hd), hds]
  have hrest : ContextsSound t ∧ t.waitingTotes = s.waitingTotes ∧ t.orders = s.orders ∧ t.context = s.context := by
    rw [← ht]
    exact ⟨hcontexts, rfl, rfl, rfl⟩
  obtain ⟨hcontexts', hwaiting, horders, hcontext⟩ := hrest
  rw [TotesSoundBut, hwaiting, horders, hcontext]
  refine ⟨hcontexts', hchains.loaded hfree ?nodup hk hother (fun n hn => ?taken) hkept,
    htallies.of_totes (fun o _ => (hactive o.chute).1) fun j e hj => ?tally,
    fun j hj hclosing => hheld j hj ((hactive j).2 ▸ hclosing), hnamed⟩
  case nodup =>
    rw [← hds]
    exact s.freeDescriptors_nodup.sublist (List.take_sublist _ _)
  case taken =>
    have hn' : n < es.length := hlen ▸ hn
    refine ⟨es[n], hrange _ (List.getElem_mem hn'), ?_⟩
    rw [hstore]
    subst hds
    exact State.loadedStore_taken hroom hlast n hn hn'
  case tally =>
    rw [(hactive j).1] at hj
    have hout : e ∉ ds := fun hd => by cases (hchains.active_state hj).symm.trans (hfree e hd)
    rw [hkept e hout]
    split
    · exact htallies.tally j e hj
    · exact htallies.tally j e hj

theorem TotesSoundBut.chainLoadAct (ps : List Byte) : TotesSoundBut none none (chainLoadAct ps s).1 := by
  obtain ⟨-, hchains, -⟩ := id hs
  unfold Machine.chainLoadAct
  split
  · exact hs
  · next k es hparse =>
    split
    · exact hs
    · next hroom =>
      have hloaded := hs.chainLoaded (k := k) (Nat.le_of_not_lt hroom) (parseChainLoad_inRange hparse)
      have hstarts : (s.chute k).state = .unconfigured ∨ (s.chute k).state = .exhausted → TotesSoundBut none none
          ((State.modChute { s with descriptors := s.loadedStore k es } k
            (fun c => { c with chain := c.chain ++ s.freeDescriptors.take es.length })).enterSwapping k) := fun hstate => by
        refine hloaded.enterSwapping ?_ ?_ <;> rw [State.chute_modChute_self]
        · refine (hchains.chutes k).active_eq_none ?_ ?_ <;> rcases hstate with h | h <;> rw [h] <;> decide
        · refine (hchains.chutes k).pending_eq_none ?_
          rcases hstate with h | h <;> rw [h] <;> decide
      dsimp only
      rw [State.linkLast_fillDescriptors]
      split
      · next hstate => exact hstarts (.inl hstate)
      · next hstate => exact hstarts (.inr hstate)
      · exact hloaded

/-! ### Waiting records (R118, R164) -/

/-- A tote record that waits is admitted. -/
theorem TotesSoundBut.toteAdmitted {w : WaitingTote} (hw : w ∈ s.waitingTotes) : TotesSoundBut none none
    { s.modDescriptor w.descriptor (fun _ => {}) with waitingTotes := s.waitingTotes.erase w } := by
  obtain ⟨hcontexts, hchains, htallies, hheld, hnamed⟩ := hs
  have hclosed : (s.descriptor w.descriptor).state = .closed := (hchains.places _).closed.mpr ⟨w, hw, rfl⟩
  have hdesc : ∀ e, (s.modDescriptor w.descriptor (fun _ => {})).descriptor e =
      if w.descriptor = e then {} else s.descriptor e := fun e =>
    State.descriptor_modDescriptor s w.descriptor e (fun _ => {})
  refine ⟨hcontexts, hchains.admitted hw hdesc, htallies.of_totes (fun _ _ => rfl) fun k d hk => ?_, hheld, hnamed⟩
  refine (hdesc d).symm ▸ ?_
  rw [if_neg fun he => by cases (hchains.active_state hk).symm.trans (he ▸ hclosed)]
  exact htallies.tally k d hk

end Chains

end Sys2Proof.Machine
end

section
/-! The life of contexts, decisions, divert reports and the passing of time keep the laws of totes and orders (R3, R4, R20, R21, R27,
R43, R76 to R99). -/

namespace Sys2Proof.Machine

/-! ### Contexts that are and are not ORDERED (R3, R4, R20, R21, R27) -/

theorem SameOrder.trans {c c' c'' : Context} (h : SameOrder c c') (h' : SameOrder c' c'') : SameOrder c c'' :=
  ⟨h'.ordered.trans h.ordered, fun ho => (h'.tray (h.ordered.mpr ho)).trans (h.tray ho)⟩

/-- One context changes, and keeps its part. -/
theorem SameOrder.modContext {s : State} {i : ContextIndex} {f : Context → Context} (h : SameOrder (s.context i) (f (s.context i)))
    (j : ContextIndex) : SameOrder (s.context j) ((s.modContext i f).context j) := by
  rw [State.context_modContext]
  split
  · next hij => exact hij ▸ h
  · exact .refl _

/-- The context that a grading starts with was QUEUED (R2, R27). -/
theorem SameOrder.startGrading {s : State} (hs : GradingQueueSound s) (j : ContextIndex) :
    SameOrder (s.context j) (s.startGrading.context j) := by
  rcases s.startGrading_cases with ⟨i, rest, -, hq, he⟩ | ⟨-, he⟩ <;> rw [he]
  · have hqueued : (s.context i).state = .queued := (hs.2 i).mp (hq ▸ List.mem_cons_self)
    have hnot : (s.context i).state ≠ .ordered := by rw [hqueued]; decide
    exact SameOrder.modContext (s := { s with gradingQueue := rest, inFlight := _ }) (.of_not hnot (by simp)) j
  · exact .refl _

/-- A context written into its slot as sealed is QUEUED or GRADING. -/
theorem State.withSealed_context (s : State) (i j : ContextIndex) (c : Context) : ∃ st, st ≠ .ordered ∧
    (s.withSealed i c).context j = if i = j then { c with state := st } else s.context j := by
  unfold State.withSealed
  split
  · exact ⟨.grading, by decide, State.context_modContext _ i j _⟩
  · exact ⟨.queued, by decide, State.context_modContext _ i j _⟩

theorem SameOrder.withSealed {s : State} {i : ContextIndex} (h : (s.context i).state ≠ .ordered) (c : Context)
    (j : ContextIndex) : SameOrder (s.context j) ((s.withSealed i c).context j) := by
  obtain ⟨st, hst, he⟩ := s.withSealed_context i j c
  rw [he]
  split
  · next hij => exact .of_not (hij ▸ h) hst
  · exact .refl _

theorem SameOrder.seal (s : State) (i j : ContextIndex) : SameOrder (s.context j) ((s.seal i).context j) := by
  by_cases ho : (s.context i).state = .opened
  · rw [s.seal_eq_withSealed i ho]
    exact .withSealed (by rw [ho]; decide) _ j
  · rw [State.seal, if_neg ho]
    exact .refl _

/-- A withdrawal has its effect on OPEN contexts alone (R21). -/
theorem SameOrder.withdrawn (p : StationPort) (c : Context) : SameOrder c (c.withdrawn p) := by
  unfold Context.withdrawn
  split
  · next hl =>
    refine .of_not (by rw [Context.losesPort_opened hl]; decide) ?_
    dsimp only
    split <;> decide
  · exact .refl c

theorem SameOrder.withdraw (s : State) (p : StationPort) (j : ContextIndex) :
    SameOrder (s.context j) ((s.withdraw p).context j) := by
  have hwithdrawing : SameOrder (s.context j) ((s.withdrawing p).context j) := by
    rw [State.withdrawing_context]
    exact .withdrawn p _
  rcases s.withdraw_cases p with ⟨i, rest, -, -, hsealed, he⟩ | ⟨-, he⟩ <;> rw [he]
  · have hseals := (s.mem_sealedBy p i).mp (hsealed ▸ List.mem_cons_self)
    have hopened := Context.losesPort_opened (((s.context i).sealsWithout_iff p).mp hseals).1
    have hnot : ((s.withdrawing p).context i).state ≠ .ordered := by
      rw [State.withdrawing_context]
      exact mt (SameOrder.withdrawn p _).ordered.mp (by rw [hopened]; decide)
    exact hwithdrawing.trans (SameOrder.modContext (s := { s.withdrawing p with gradingQueue := rest, inFlight := _ })
      (.of_not hnot (by simp)) j)
  · exact hwithdrawing

/-- A context opens in a FREE slot (R6). -/
theorem SameOrder.openContext {s : State} {i : ContextIndex} (hfree : (s.context i).state = .free) (t : Tray) (f : InductItem)
    (j : ContextIndex) : SameOrder (s.context j) ((s.openContext i t f).context j) := by
  have hnot : (s.context i).state ≠ .ordered := by rw [hfree]; decide
  obtain ⟨e, -, hready, hnone⟩ := s.openContext_opens i t f
  by_cases he : e = 0
  · rw [hnone he]
    exact .withSealed (s := s.setMap t (some i)) hnot _ j
  · rw [hready he, State.setMap_context]
    exact .modContext (.of_not hnot (by simp [inductedContext])) j

/-! ### What the life of a context keeps (R3, R4, R20, R21, R27, R43) -/

section Contexts

variable {s t : State} {x : Option Chute} {c : Option ContextIndex} {i : ContextIndex}

/-- The chutes, totes and orders stay, and every context keeps its part. -/
theorem TotesSoundBut.of_frame (hs : TotesSoundBut x c s) (hcontexts : ContextsSound t)
    (frame : t = { t with chutes := s.chutes, descriptors := s.descriptors, waitingTotes := s.waitingTotes, orders := s.orders })
    (hsame : ∀ j, SameOrder (s.context j) (t.context j)) : TotesSoundBut x c t := by
  obtain ⟨-, hchains, htallies, hheld, hnamed⟩ := hs
  have hnamed' := hnamed.of_same hsame
  rw [frame] at hcontexts hnamed' ⊢
  exact ⟨hcontexts, hchains, htallies, hheld, hnamed'⟩

/-- A context that is not ORDERED may be left without an entry. -/
theorem TotesSoundBut.vacate (hs : TotesSoundBut x none s) (hi : (s.context i).state ≠ .ordered) :
    TotesSoundBut x (some i) s := by
  obtain ⟨hcontexts, hchains, htallies, hheld, hnamed⟩ := hs
  exact ⟨hcontexts, hchains, htallies, hheld, hnamed.of_not_ordered hi⟩

/-- The chutes, totes and orders stay, and the context left without an entry leaves ORDERED. -/
theorem TotesSoundBut.leaves (hs : TotesSoundBut x (some i) s) (hcontexts : ContextsSound t)
    (frame : t = { t with chutes := s.chutes, descriptors := s.descriptors, waitingTotes := s.waitingTotes, orders := s.orders })
    (hi : (t.context i).state ≠ .ordered) (hother : ∀ j, j ≠ i → t.context j = s.context j) : TotesSoundBut x none t := by
  obtain ⟨-, hchains, htallies, hheld, hnamed⟩ := hs
  have hnamed' := hnamed.leaves hi hother
  rw [frame] at hcontexts hnamed' ⊢
  exact ⟨hcontexts, hchains, htallies, hheld, hnamed'⟩

theorem TotesSoundBut.settleContext (hs : TotesSoundBut x (some i) s) (hi : (s.context i).state ≠ .ordered) :
    TotesSoundBut x none s := hs.leaves hs.1 rfl hi fun _ _ => rfl

theorem TotesSoundBut.unorder (hs : TotesSoundBut x (some i) s) : TotesSoundBut x none (s.unorder i) := by
  refine hs.leaves ((Moves.unorder s i).keeps (fun _ _ => Move.keeps_contextsSound) hs.1) rfl ?_ fun j hj => ?_
  · rw [State.unorder, State.context_modContext_self]
    split
    · exact fun h => nomatch h
    · next h => exact h
  · rw [State.unorder, State.context_modContext, if_neg (Ne.symm hj)]

theorem TotesSoundBut.closeContext (hs : TotesSoundBut x (some i) s) (h : s.closable i) (o : ItemOutcome)
    (d : Option Delivery) : TotesSoundBut x none (s.closeContext i o d) := by
  refine hs.leaves (hs.1.closeContext h o d) (by rw [State.closeContext_frame]) ?_ fun j hj => s.closeContext_other hj o d
  rcases s.closeContext_state i o d with he | he <;> rw [he] <;> decide

theorem TotesSoundBut.closeDiverted (hs : TotesSoundBut x (some i) s) (d : Delivery) :
    TotesSoundBut x none (s.closeDiverted i d) := by
  unfold State.closeDiverted
  split
  · next h => exact hs.closeContext ⟨by rw [h]; decide, .inl (by rw [h]; rfl)⟩ _ _
  · next h => exact hs.settleContext h

theorem TotesSoundBut.closeMisdelivered (hs : TotesSoundBut x (some i) s) (d : Delivery) :
    TotesSoundBut x none (s.closeMisdelivered i d) := by
  unfold State.closeMisdelivered
  split
  · next h => exact hs.closeContext ⟨by rw [h]; decide, .inl (by rw [h]; rfl)⟩ _ _
  · next h => exact hs.closeContext ⟨by rw [h]; decide, .inl (by rw [h]; rfl)⟩ _ _
  · next h => exact hs.closeContext ⟨by rw [h]; decide, .inl (by rw [h]; rfl)⟩ _ _
  · next hordered _ _ => exact hs.settleContext hordered

/-- A context that an order names, if it names one, is settled by what follows. -/
theorem TotesSoundBut.forContext (hs : TotesSoundBut x c s) {f : State → ContextIndex → State}
    (hf : ∀ i, TotesSoundBut x (some i) s → TotesSoundBut x none (f s i)) : TotesSoundBut x none (s.forContext c f) := by
  cases c with
  | none => exact hs
  | some i => exact hf i hs

section

variable (hs : TotesSoundBut x c s)

include hs

/-- A context changes, but not its state or its tray. -/
theorem TotesSoundBut.modContext (i : ContextIndex) {f : Context → Context}
    (hstate : (f (s.context i)).state = (s.context i).state) (htray : (f (s.context i)).tray = (s.context i).tray) :
    TotesSoundBut x c (s.modContext i f) :=
  hs.of_frame (hs.1.modContext ⟨by rw [hstate], fun _ => htray, by rw [hstate], by rw [hstate]⟩) rfl
    (.modContext ⟨by rw [hstate], fun _ => htray⟩)

theorem TotesSoundBut.countLap (i : ContextIndex) : TotesSoundBut x c (s.countLap i) := hs.modContext i rfl rfl

theorem TotesSoundBut.startGrading : TotesSoundBut x c s.startGrading :=
  hs.of_frame hs.1.startGrading (by rw [State.startGrading_frame]) (.startGrading hs.1.2.1)

theorem TotesSoundBut.seal (i : ContextIndex) : TotesSoundBut x c (s.seal i) :=
  hs.of_frame (hs.1.seal i) (by rw [State.seal_frame]) (.seal s i)

theorem TotesSoundBut.withdraw (p : StationPort) : TotesSoundBut x c (s.withdraw p) :=
  hs.of_frame (hs.1.withdraw p) (by rw [State.withdraw_frame]) (.withdraw s p)

theorem TotesSoundBut.openContext {j : ContextIndex} {t : Tray} (f : InductItem) (hfree : (s.context j).state = .free)
    (ht : t ≠ noTray) (hmap : s.lookup t = none) : TotesSoundBut x c (s.openContext j t f) :=
  hs.of_frame (hs.1.openContext f hfree ht hmap) (by rw [State.openContext_frame]) (.openContext hfree t f)

end

end Contexts

theorem ordersOn_map {f : DivertOrder → DivertOrder} (hf : ∀ o, (f o).chute = o.chute) (orders : List DivertOrder) (k : Chute) :
    ordersOn (orders.map f) k = (ordersOn orders k).map f := by
  simp only [ordersOn, List.filter_map, Function.comp_def, hf]

section Induction

variable {s : State} (hs : TotesSoundBut none none s)

include hs

theorem TotesSoundBut.induct (t : Tray) (f : InductItem) : TotesSoundBut none none (induct t f s) := by
  unfold Machine.induct
  split
  · exact hs.offerEvent _
  · next ht =>
    split
    · next hmap =>
      split
      · exact hs.offerEvent _
      · next j hj => exact hs.openContext f (State.freeSlot_free hj) ht hmap
    · next i hmap =>
      split
      · exact hs.offerEvent _
      · next hbusy =>
        obtain ⟨hgrading, hordered⟩ := not_or.mp hbusy
        obtain ⟨hlive, htray⟩ := (hs.1.1.1 t i).mp hmap
        split
        · exact hs.offerEvent _
        · next j hj =>
          have hfree := State.freeSlot_free hj
          have hji : j ≠ i := fun he => by rw [← he, hfree] at hlive; cases hlive
          refine ((hs.vacate hordered).closeContext ⟨hgrading, .inl hlive⟩ _ _).openContext f ?_ ht ?_
          · rw [State.closeContext_other s hji]
            exact hfree
          · rw [State.closeContext_lookup, if_pos htray]

/-- The grading of a context completes (R43, R46). -/
theorem TotesSoundBut.completion {g : Grading} (h : s.inFlight = some g) :
    TotesSoundBut none none ({ s with inFlight := none }.modContext g.context (s.gradedContext g.classes)) ∧
      TotesSoundBut none none (State.closeContext { s with inFlight := none } g.context .abandoned none) := by
  have hgrading : (s.context g.context).state = .grading := (hs.1.2.2 g.context).mpr (by rw [h]; rfl)
  have hnot : (s.context g.context).state ≠ .ordered := by rw [hgrading]; decide
  refine ⟨hs.of_frame (hs.1.graded h) rfl fun j => ?_, (hs.vacate hnot).leaves (hs.1.abandoned h) ?_ ?_ fun j hj => ?_⟩
  · exact SameOrder.modContext (s := { s with inFlight := none }) (.of_not hnot (by simp [State.gradedContext])) j
  · rw [State.closeContext_frame]
  · rcases State.closeContext_state { s with inFlight := none } g.context .abandoned none with he | he <;> rw [he] <;> decide
  · exact State.closeContext_other { s with inFlight := none } hj .abandoned none

/-- A leave of the queue admits one waiting record (R164). -/
theorem TotesSoundBut.admitWaiting : TotesSoundBut none none s.admitWaiting := by
  rcases s.admitWaiting_cases with ⟨r, -, he⟩ | ⟨-, ⟨w, hw, he⟩ | ⟨-, ⟨i, hi, he⟩ | ⟨-, he⟩⟩⟩ <;> rw [he]
  · exact hs
  · exact hs.toteAdmitted (s.nextTote_mem hw)
  · have hreporting := s.nextItem_reporting hi
    have hnot : (s.context i).state ≠ .ordered := by rw [hreporting]; decide
    have hsame := SameOrder.modContext (s := s) (i := i) (f := fun _ => {}) (.of_not hnot (by simp))
    exact hs.of_frame (Move.keeps_contextsSound (.admitItem i hreporting) hs.1) rfl hsame
  · exact hs

/-! ### The passing of time (R96) -/

theorem TotesSoundBut.tick : TotesSoundBut none none s.tick := by
  obtain ⟨hcontexts, hchains, ⟨hactive, htally, htwo, hone⟩, hheld, hordered, hnamed⟩ := hs
  generalize hf : (fun o : DivertOrder => { o with remaining := o.remaining - 1 }) = f
  have horders : s.tick.orders = s.orders.map f := hf ▸ rfl
  have hkept : ∀ o, f o = { o with remaining := (f o).remaining } := fun o => by rw [← hf]
  have hon := fun k => ordersOn_map (f := f) (fun o => by rw [hkept]) s.orders k
  rw [TotesSoundBut, horders]
  refine ⟨hcontexts, hchains, ⟨?active, fun k d hk => ?tally, fun k => ?two, ?one⟩, fun k hk hclosing => ?held,
    ⟨?ordered, fun i hi hs => ?named⟩⟩
  case active =>
    simp only [List.forall_mem_map]
    intro o ho
    rw [hkept]
    exact hactive o ho
  case tally =>
    obtain ⟨hitems, hgrams, hcapacity, hlimit⟩ := htally k d hk
    have hmap : (DivertOrder.grams ∘ f) = DivertOrder.grams := funext fun o => by rw [Function.comp_apply, hkept]
    refine ⟨hitems.trans ?_, hgrams.trans ?_, hcapacity, hlimit⟩ <;> rw [hon]
    · rw [List.length_map]
    · rw [orderGrams, orderGrams, List.map_map, hmap]
  case two =>
    rw [hon, List.length_map]
    exact htwo k
  case one =>
    have hmap : (DivertOrder.tray ∘ f) = DivertOrder.tray := funext fun o => by rw [Function.comp_apply, hkept]
    rw [List.map_map, hmap]
    exact hone
  case held =>
    rw [hon]
    exact mt List.map_eq_nil_iff.mp (hheld k hk hclosing)
  case ordered =>
    simp only [List.forall_mem_map]
    intro o ho
    rw [hkept]
    exact hordered o ho
  case named =>
    obtain ⟨o, ho, hc⟩ := hnamed i hi hs
    exact ⟨f o, List.mem_map_of_mem ho, by rw [hkept]; exact hc⟩

/-! ### Decisions and divert reports (R76 to R99) -/

theorem TotesSoundBut.recirculate (t : Tray) (c : Option ContextIndex) : TotesSoundBut none none (s.recirculate t c) := by
  unfold State.recirculate
  cases c with
  | none => exact hs.sendSorter _
  | some i => exact (hs.sendSorter _).countLap i

section Requests

variable {t : Tray} (htray : ∀ o ∈ s.orders, o.tray ≠ t)

include htray

theorem TotesSoundBut.tryException {g : Nat} {c : Option ContextIndex}
    (hc : ∀ i, c = some i → (s.context i).state = .graded ∧ (s.context i).tray = t) :
    TotesSoundBut none none (s.tryException t g c) := by
  unfold State.tryException
  dsimp only
  split
  · next d hd => exact hs.issueOrder (State.accepts_of_acceptable hd) htray hc
  · exact (hs.recirculate t c).offerEvent _

theorem TotesSoundBut.tryTarget {i : ContextIndex} (hgraded : (s.context i).state = .graded) (hi : (s.context i).tray = t) :
    TotesSoundBut none none (s.tryTarget t i) := by
  unfold State.tryTarget
  dsimp only
  split
  · next k d hkd =>
    refine hs.issueOrder (State.accepts_of_firstAcceptable hkd) htray fun j hj => ?_
    cases hj
    exact ⟨hgraded, hi⟩
  · exact hs.recirculate t _

theorem TotesSoundBut.answerRequest : TotesSoundBut none none (s.answerRequest t) := by
  unfold State.answerRequest
  split
  · exact hs.tryException htray fun i hi => nomatch hi
  · next i hmap =>
    obtain ⟨-, hi⟩ := (hs.1.1.1 t i).mp hmap
    split
    · exact (hs.seal i).recirculate t _
    · next hgraded =>
      split
      · exact hs.tryTarget htray hgraded hi
      · refine TotesSoundBut.tryException (hs.modContext i rfl rfl) htray fun j hj => ?_
        cases hj
        rw [State.context_modContext_self]
        exact ⟨hgraded, hi⟩
    · exact hs.recirculate t _

end Requests

/-- A request settles an order still outstanding for its tray, which leaves none (R83). -/
theorem TotesSoundBut.impliedMiss (t : Tray) :
    TotesSoundBut none none (s.impliedMiss t) ∧ ∀ o ∈ (s.impliedMiss t).orders, o.tray ≠ t := by
  obtain ⟨-, -, htallies, -⟩ := id hs
  unfold State.impliedMiss
  split
  · next hnone => exact ⟨hs, fun o ho => by simpa using List.find?_eq_none.mp hnone o ho⟩
  · next o hfind =>
    have ho := List.mem_of_find?_eq_some hfind
    have ht : o.tray = t := by simpa using List.find?_some hfind
    have horders : ∀ u : State, (u.forContext o.context State.unorder).orders = u.orders := fun u => by
      cases o.context <;> rfl
    refine ⟨((hs.settleRelease ho).offerEvent _).forContext fun i hi => hi.unorder, fun o' ho' => ?_⟩
    rw [horders, State.offerEvent_orders, State.settleRelease_orders] at ho'
    exact ht ▸ tray_ne_of_mem_erase htallies.one ho ho'

theorem TotesSoundBut.sorterFrame {t : State} (ht : TotesSoundBut none none t) : TotesSoundBut none none (s.sorterFrame t) := by
  rcases s.sorterFrame_cases t with ⟨-, he⟩ | ⟨-, he⟩ <;> rw [he]
  · exact ht
  · exact hs

section Settled

variable {o : DivertOrder} (ho : o ∈ s.orders)

include ho

theorem TotesSoundBut.deliver (t : Tray) (k : Chute) : TotesSoundBut none none (s.deliver t k o) := by
  have hsettled := hs.settleCommit ho
  unfold State.deliver
  dsimp only
  split
  · next i hi =>
    rw [hi] at hsettled
    exact hsettled.closeDiverted _
  · next hnone =>
    rw [hnone] at hsettled
    exact hsettled.offerEvent _

theorem TotesSoundBut.deliverElsewhere (t : Tray) (k : Chute) : TotesSoundBut none none (s.deliverElsewhere t k o) :=
  (((hs.settleRelease ho).stray k).forContext fun _ hi => hi.closeMisdelivered _).offerEvent _

theorem TotesSoundBut.missOrder : TotesSoundBut none none (s.missOrder o) :=
  (hs.settleRelease ho).forContext fun i hi => hi.unorder.countLap i

end Settled

theorem TotesSoundBut.deliverUnordered (t : Tray) (k : Chute) : TotesSoundBut none none (s.deliverUnordered t k) := by
  have hstray := (hs.stray k).offerEvent (.strayDivert t k none)
  have hcontext : ∀ i, ((s.stray k).1.offerEvent (.strayDivert t k none)).context i = s.context i := fun i => by
    rw [State.offerEvent_context, State.stray_context]
  have hcloses : ∀ i d, (s.context i).state ≠ .ordered → TotesSoundBut none none
      (((s.stray k).1.offerEvent (.strayDivert t k none)).closeMisdelivered i d) := fun i d hi =>
    (hstray.vacate ((hcontext i).symm ▸ hi)).closeMisdelivered d
  unfold State.deliverUnordered
  dsimp only
  split
  · exact hstray
  · split
    · next h => exact hcloses _ _ (by rw [h]; decide)
    · next h => exact hcloses _ _ (by rw [h]; decide)
    · exact hstray.offerEvent _
    · exact hstray.offerEvent _
    · exact hstray

/-- The cancel of an ORDERED context's order (R99). -/
theorem TotesSoundBut.cancelOrder {i : ContextIndex} (hi : (s.context i).state = .ordered) :
    TotesSoundBut none none (s.cancelOrder i) := by
  obtain ⟨-, -, -, -, hnamed⟩ := id hs
  obtain ⟨o, ho, hoi⟩ := hnamed.named i (by simp) hi
  unfold State.cancelOrder
  split
  · next o' hfind =>
    have hsettled := hs.settleRelease (List.mem_of_find?_eq_some hfind)
    rw [show o'.context = some i by simpa using List.find?_some hfind] at hsettled
    exact hsettled.unorder
  · next hnone => exact absurd hoi (by simpa using List.find?_eq_none.mp hnone o ho)

theorem TotesSoundBut.abandonTrayAct (ps : List Byte) : TotesSoundBut none none (abandonTrayAct ps s).1 := by
  unfold Machine.abandonTrayAct
  split
  · exact hs
  · next t _ =>
    dsimp only
    split
    · exact hs
    · next i hmap =>
      split
      · exact hs.modContext i rfl rfl
      · next hordered =>
        have hgraded := State.cancelOrder_graded hordered
        exact ((hs.cancelOrder hordered).vacate (by rw [hgraded]; decide)).closeContext
          ⟨by rw [hgraded]; decide, .inl (by rw [hgraded]; rfl)⟩ _ _
      · next hgrading hordered => exact (hs.vacate hordered).closeContext ⟨hgrading, .inr ⟨t, hmap⟩⟩ _ _

end Induction

end Sys2Proof.Machine
end

section
/-! Every command and every step keeps the laws of chutes, totes, reservations and orders (R77, R78, R103 to R110, R118). -/

namespace Sys2Proof.Machine

/-- The reset state is sound; a soft reset keeps of the state before it nothing that the laws read (R182). -/
theorem totesSoundBut_reset : TotesSoundBut none none State.reset :=
  (totesSoundBut_none _).mpr ⟨State.reset_contextsSound, State.reset_totesSound⟩

section Commands

variable {s : State} (hs : TotesSoundBut none none s)

include hs

/-! ### Station ports (R125 to R141) -/

theorem TotesSoundBut.sendStation (p : StationPort) (f : StationFrame) : TotesSoundBut none none (s.sendStation p f) := by
  rw [State.sendStation_frame]
  exact hs

theorem TotesSoundBut.portEvent (p : StationPort) (d : PortDetail) : TotesSoundBut none none (s.portEvent p d) :=
  hs.offerEvent _

theorem TotesSoundBut.modPort (p : StationPort) (f : PortRecord → PortRecord) : TotesSoundBut none none (s.modPort p f) := hs

theorem TotesSoundBut.startProbe (p : StationPort) : TotesSoundBut none none (s.startProbe p) :=
  (hs.modPort p _).sendStation p _

/-- A port that was READY or PAUSING is withdrawn (R21, R139). -/
theorem TotesSoundBut.leavesReady (P : PortRecord) (p : StationPort) :
    TotesSoundBut none none (if P.state = .ready ∨ P.state = .pausing then s.withdraw p else s) := by
  split
  · exact hs.withdraw p
  · exact hs

/-- A pending compound is cancelled with its event (R130). -/
theorem TotesSoundBut.cancels (P : PortRecord) (p : StationPort) :
    TotesSoundBut none none (if P.compound = true then s.portEvent p .compoundCancelled else s) := by
  split
  · exact hs.portEvent p _
  · exact hs

theorem TotesSoundBut.detach (p : StationPort) : TotesSoundBut none none (s.detach p) := by
  have hdetached : TotesSoundBut none none ((s.dropStationTx p).modPort p (fun P => { P with
      state := .detached, timer := none, compound := false, faultCause := none, hold := false })) := hs
  unfold State.detach
  dsimp only
  split
  · exact hs
  · exact (hdetached.cancels (s.port p) p).leavesReady (s.port p) p

theorem TotesSoundBut.losePortLink (p : StationPort) : TotesSoundBut none none (s.losePortLink p) := by
  have hlost := (hs.modPort p (fun P => { P with state := .listening, timer := none, hold := false, compound := false
    })).portEvent p .lost
  unfold State.losePortLink
  dsimp only
  split
  · exact hs
  · exact hs
  · exact hs
  · exact (hlost.cancels (s.port p) p).leavesReady (s.port p) p

/-- What a Go target's first step does to a port whose state allows it. -/
theorem TotesSoundBut.goStep {effect : State → StationPort → Option State}
    (h : effect ∈ [State.goListenStep, State.goProbeStep, State.goReadyStep, State.goPauseStep, State.goResumeStep,
      State.goCompoundStep]) {p : StationPort} {t : State} (ht : effect s p = some t) : TotesSoundBut none none t := by
  simp only [List.mem_cons, List.not_mem_nil, or_false] at h
  rcases h with rfl | rfl | rfl | rfl | rfl | rfl
  · rw [State.goListenStep_eq] at ht
    cases (Option.ite_none_right_eq_some.mp ht).2
    exact hs
  · rw [State.goProbeStep_eq] at ht
    cases (Option.ite_none_right_eq_some.mp ht).2
    exact hs.startProbe p
  · rw [State.goReadyStep_eq] at ht
    cases (Option.ite_none_right_eq_some.mp ht).2
    exact hs
  · rw [State.goPauseStep_eq] at ht
    cases (Option.ite_none_right_eq_some.mp ht).2
    exact (hs.modPort p _).sendStation p _
  · rw [State.goResumeStep_eq] at ht
    cases (Option.ite_none_right_eq_some.mp ht).2
    exact (hs.modPort p _).sendStation p _
  · unfold State.goCompoundStep at ht
    dsimp only at ht
    split at ht <;> cases ht
    · exact hs
    · exact hs
    · exact hs
    · exact (hs.modPort p _).startProbe p

theorem TotesSoundBut.goAct {effect : State → StationPort → Option State} (target : Nat) (ps : List Byte)
    (h : effect ∈ [State.goListenStep, State.goProbeStep, State.goReadyStep, State.goPauseStep, State.goResumeStep,
      State.goCompoundStep]) : TotesSoundBut none none (goAct target ps effect s).1 := by
  unfold Machine.goAct
  split
  · exact hs
  · split
    · exact hs
    · split
      · next t ht => exact hs.goStep h ht
      · exact hs

theorem TotesSoundBut.attach (p : StationPort) : TotesSoundBut none none (s.attach p) := by
  have hattached := (hs.modPort p (fun P => { P with state := .attached })).portEvent p .attached
  unfold State.attach
  dsimp only
  split
  · exact hattached.startProbe p
  · exact hattached

theorem TotesSoundBut.stationFrame {t : State} (p : StationPort) (ht : TotesSoundBut none none t) :
    TotesSoundBut none none (s.stationFrame p t) := by
  unfold State.stationFrame
  split
  · exact hs
  · exact hs.attach p
  · exact ht

theorem TotesSoundBut.endProbe (p : StationPort) (c : StationClass) (cap : Capability) (d : Bool) :
    TotesSoundBut none none (s.endProbe p c cap d) := by
  have hprobed := (hs.modPort p (fun P => { P with
    state := .probed, timer := none, detectedClass := c, capability := cap })).portEvent p (.probed c cap d)
  unfold State.endProbe
  dsimp only
  split
  · exact (hprobed.modPort p _).portEvent p _
  · exact hprobed

theorem TotesSoundBut.enterFault (p : StationPort) (f : FaultCause) (d : PortDetail) :
    TotesSoundBut none none (s.enterFault p f d) := ((hs.modPort p _).portEvent p d).withdraw p

theorem TotesSoundBut.endPause (p : StationPort) (d : PortDetail) : TotesSoundBut none none (s.endPause p d) :=
  ((hs.modPort p _).portEvent p d).withdraw p

theorem TotesSoundBut.takeAnnounce (p : StationPort) (cls cap : Byte) : TotesSoundBut none none (s.takeAnnounce p cls cap) := by
  unfold State.takeAnnounce
  split
  · split
    · exact hs.endProbe p _ _ _
    · exact hs.enterFault p _ _
  · exact hs

theorem TotesSoundBut.takeResumeAck (p : StationPort) : TotesSoundBut none none (s.takeResumeAck p) := by
  unfold State.takeResumeAck
  split
  · exact (hs.modPort p _).portEvent p _
  · exact hs

/-- A request about a context that may be there or not, each answer of which keeps the laws. -/
theorem TotesSoundBut.forLookup (c : Option ContextIndex) {f : State → ContextIndex → State}
    (hf : ∀ i, TotesSoundBut none none (f s i)) : TotesSoundBut none none (s.forContext c f) := by
  cases c with
  | none => exact hs
  | some i => exact hf i

theorem TotesSoundBut.joinQueue (p : StationPort) (r : ObsRecord) : TotesSoundBut none none (s.joinQueue p r) := by
  unfold State.joinQueue
  split
  · unfold State.holdTest
    split
    · exact ((hs.modPort p _).modPort p _).sendStation p _
    · exact hs.modPort p _
  · have hover := hs.offerEvent (.queueOverrun p r.tray r.body.kind)
    refine hover.forLookup _ fun i => hover.modContext i ?_ ?_ <;> split <;> rfl

/-! ### Records (R12 to R19) -/

theorem TotesSoundBut.mergeOf (p : StationPort) (b : RecordBody) (i : ContextIndex) :
    TotesSoundBut none none (mergeOf p b s i) := by
  cases b with
  | defect code zone extent => refine hs.modContext i ?_ ?_ <;> rw [Context.mergeDefect_frame]
  | tag present mismatch => exact hs.modContext i rfl rfl
  | weight grams => exact hs.modContext i rfl rfl
  | itemDone =>
    have hreported : TotesSoundBut none none (s.modContext i (fun c => { c with reported := portInsert p c.reported })) :=
      hs.modContext i rfl rfl
    unfold Machine.mergeOf mergeItemDone
    dsimp only
    split
    · exact hreported.seal i
    · exact hreported

theorem TotesSoundBut.routeAndMerge (p : StationPort) (r : ObsRecord) :
    TotesSoundBut none none (s.routeAndMerge p r (Machine.mergeOf p r.body)) := by
  unfold State.routeAndMerge
  split
  · exact (hs.forLookup _ fun i => hs.modContext i rfl rfl).offerEvent _
  · exact hs.offerEvent _
  · exact hs.mergeOf p r.body _

/-- A row that takes a record of its kind, whatever merge it names for the other kinds. -/
theorem TotesSoundBut.takeRecord {p : StationPort} {k : RecordKind} {merge : RecordBody → State → ContextIndex → State}
    (hm : ∀ b, b.kind = k → merge b = Machine.mergeOf p b) : TotesSoundBut none none (s.takeRecord p k merge) := by
  cases hin : (s.port p).inbound with
  | nil =>
    simp only [State.takeRecord, hin]
    exact hs
  | cons r rest =>
    by_cases hk : r.body.kind = k
    · have hleft : TotesSoundBut none none (s.afterLeave p rest) := by
        rw [State.afterLeave_frame]
        exact hs
      rw [State.takeRecord_head s hin hk, State.releaseTest_eq_afterLeave, hm _ hk]
      exact hleft.routeAndMerge p r
    · simp only [State.takeRecord, hin, if_neg hk]
      exact hs

/-! ### Management commands and gradings -/

theorem TotesSoundBut.finish (tag code : Byte) (ps : List Byte) (r : ResultCode) (pl : List Byte) :
    TotesSoundBut none none (s.finish tag code ps r pl) := by
  rw [State.finish_frame]
  exact hs

/-- A management command keeps the laws if its execution does. -/
theorem TotesSoundBut.runCommand {act : State → State × Reply} (tag code : Byte) (ps : List Byte)
    (hact : TotesSoundBut none none (act s).1) : TotesSoundBut none none (s.runCommand tag code ps act) := by
  rcases s.runCommand_cases tag code ps act with ⟨-, he⟩ | ⟨-, ⟨t, r, pl, ha, he⟩ | ⟨t, ha, he⟩⟩ <;> rw [he]
  · rw [State.offerBusy_frame]
    exact hs
  · rw [ha] at hact
    exact hact.finish tag code ps r pl
  · rw [ha] at hact
    exact hact

theorem TotesSoundBut.writeTable (w : TableChange) : TotesSoundBut none none (s.writeTable w) := by
  rw [State.writeTable_frame]
  exact hs

theorem TotesSoundBut.writeAct (change : Option TableChange) : TotesSoundBut none none (writeAct change s).1 := by
  unfold Machine.writeAct
  split
  · exact hs
  · split
    · exact hs.writeTable _
    · exact hs

theorem TotesSoundBut.controlAct {effect : State → Chute → Option State} (action : Nat) (ps : List Byte)
    (h : ∀ k t, effect s k = some t → TotesSoundBut none none t) : TotesSoundBut none none (controlAct action ps effect s).1 := by
  unfold Machine.controlAct
  split
  · exact hs
  · split
    · next t ht => exact h _ t ht
    · exact hs

theorem TotesSoundBut.takeWrite : TotesSoundBut none none s.takeWrite := by
  unfold State.takeWrite
  split
  · exact (hs.writeTable _).finish _ _ _ _ _
  · exact hs

theorem TotesSoundBut.handOver : TotesSoundBut none none s.handOver := by
  unfold State.handOver
  split
  · split
    · exact hs.takeWrite
    · exact hs
  · exact hs.startGrading

theorem TotesSoundBut.completeContext {g : Grading} (h : s.inFlight = some g) :
    TotesSoundBut none none (State.completeContext { s with inFlight := none } g.context g.classes) := by
  obtain ⟨hgraded, hclosed⟩ := hs.completion h
  unfold State.completeContext
  dsimp only
  split
  · split
    · split
      · exact hclosed.finish _ _ _ _ _
      · exact hclosed
    · exact hclosed
  · exact hgraded

/-- An effect that asks for a condition, and changes nothing without it. -/
theorem TotesSoundBut.ite {t : State} {c : Prop} [Decidable c] (ht : c → TotesSoundBut none none t) :
    TotesSoundBut none none (if c then t else s) := by
  split
  · next h => exact ht h
  · exact hs

/-! ### The tote chain unit's commands and signals -/

/-- ADVANCE: an EXHAUSTED chute has no tote in place and waits for none (R105, R119). -/
theorem TotesSoundBut.advance {k : Chute} (hk : (s.chute k).state = .exhausted) : TotesSoundBut none none (s.enterSwapping k) := by
  obtain ⟨-, hchains, -⟩ := id hs
  exact hs.enterSwapping ((hchains.chutes k).active_eq_none (by rw [hk]; decide) (by rw [hk]; decide))
    ((hchains.chutes k).pending_eq_none (by rw [hk]; decide))

theorem TotesSoundBut.toteFull (k : Chute) : TotesSoundBut none none
    (if (s.chute k).state = .opened then s.callClose k .fullSignal else s.chuteEvent k .fullIgnored) := by
  split
  · next hopened => exact hs.callClose hopened _
  · exact hs.chuteEvent k _

theorem TotesSoundBut.chainClearAct (ps : List Byte) : TotesSoundBut none none (chainClearAct ps s).1 := by
  unfold Machine.chainClearAct
  split
  · exact hs
  · split
    · next hleft => exact hs.clearChain hleft
    · exact hs

theorem TotesSoundBut.softResetAct (ps : List Byte) : TotesSoundBut none none (softResetAct ps s).1 := by
  unfold Machine.softResetAct
  split
  · exact totesSoundBut_reset
  · exact hs

/-! ### Every command and every step -/

/-- Every command answers a sound state of a sound one. -/
theorem TotesSoundBut.exec : ∀ c : Instr, ∃ t, exec c s = .next t ∧ TotesSoundBut none none t
  | .induct t f => ⟨_, rfl, hs.induct t f⟩
  | .configure g ps => ⟨_, rfl, hs.runCommand g _ ps (by
      unfold configureAct
      split <;> exact hs)⟩
  | .portConfig g ps => ⟨_, rfl, hs.runCommand g _ ps (by
      unfold portConfigAct
      split
      · exact hs
      · split <;> exact hs)⟩
  | .goDetach g ps => ⟨_, rfl, hs.runCommand g _ ps (by
      unfold goDetachAct
      split
      · exact hs
      · exact hs.detach _)⟩
  | .goListen g ps => ⟨_, rfl, hs.runCommand g _ ps (hs.goAct 1 ps (by simp))⟩
  | .goProbe g ps => ⟨_, rfl, hs.runCommand g _ ps (hs.goAct 2 ps (by simp))⟩
  | .goReady g ps => ⟨_, rfl, hs.runCommand g _ ps (hs.goAct 3 ps (by simp))⟩
  | .goPause g ps => ⟨_, rfl, hs.runCommand g _ ps (hs.goAct 4 ps (by simp))⟩
  | .goResume g ps => ⟨_, rfl, hs.runCommand g _ ps (hs.goAct 5 ps (by simp))⟩
  | .goListenToReady g ps => ⟨_, rfl, hs.runCommand g _ ps (hs.goAct 6 ps (by simp))⟩
  | .writeWeights g ps => ⟨_, rfl, hs.runCommand g _ ps (hs.writeAct _)⟩
  | .writeProfile g ps => ⟨_, rfl, hs.runCommand g _ ps (hs.writeAct _)⟩
  | .writeReasons g ps => ⟨_, rfl, hs.runCommand g _ ps (hs.writeAct _)⟩
  | .writeWindow g ps => ⟨_, rfl, hs.runCommand g _ ps (hs.writeAct _)⟩
  | .writeDefault g ps => ⟨_, rfl, hs.runCommand g _ ps (hs.writeAct _)⟩
  | .tableWrite => ⟨_, rfl, hs.ite fun _ => hs.takeWrite.startGrading⟩
  | .chainLoad g ps => ⟨_, rfl, hs.runCommand g _ ps (hs.chainLoadAct ps)⟩
  | .chainClear g ps => ⟨_, rfl, hs.runCommand g _ ps (hs.chainClearAct ps)⟩
  | .enable g ps => ⟨_, rfl, hs.runCommand g _ ps (hs.controlAct 0 ps fun k t h => by
      cases h
      exact hs.modChute_flags rfl)⟩
  | .disable g ps => ⟨_, rfl, hs.runCommand g _ ps (hs.controlAct 1 ps fun k t h => by
      cases h
      exact hs.modChute_flags rfl)⟩
  | .closeNow g ps => ⟨_, rfl, hs.runCommand g _ ps (hs.controlAct 2 ps fun k t h => by
      obtain ⟨hopened, he⟩ := Option.ite_none_right_eq_some.mp h
      cases he
      exact hs.callClose hopened _)⟩
  | .advance g ps => ⟨_, rfl, hs.runCommand g _ ps (hs.controlAct 3 ps fun k t h => by
      obtain ⟨⟨hexhausted, -⟩, he⟩ := Option.ite_none_right_eq_some.mp h
      cases he
      exact hs.advance hexhausted)⟩
  | .abandonTray g ps => ⟨_, rfl, hs.runCommand g _ ps (hs.abandonTrayAct ps)⟩
  | .readContext g ps => ⟨_, rfl, hs.runCommand g _ ps ((readContextAct_state ps s).symm ▸ hs)⟩
  | .readChute g ps => ⟨_, rfl, hs.runCommand g _ ps ((readChuteAct_state ps s).symm ▸ hs)⟩
  | .readTable g ps => ⟨_, rfl, hs.runCommand g _ ps ((readTableAct_state ps s).symm ▸ hs)⟩
  | .readStatus g ps => ⟨_, rfl, hs.runCommand g _ ps ((readStatusAct_state ps s).symm ▸ hs)⟩
  | .eventRoute g ps => ⟨_, rfl, hs.runCommand g _ ps (by
      unfold eventRouteAct
      split <;> exact hs)⟩
  | .ackAttention g ps => ⟨_, rfl, hs.runCommand g _ ps (by
      unfold ackAttentionAct
      split <;> exact hs)⟩
  | .softReset g ps => ⟨_, rfl, hs.runCommand g _ ps (hs.softResetAct ps)⟩
  | .badCommand g code ps => ⟨_, rfl, hs.runCommand g code ps hs⟩
  | .obsDefect p _ _ _ _ => ⟨_, rfl, hs.stationFrame p (hs.joinQueue p _)⟩
  | .obsTag p _ _ _ => ⟨_, rfl, hs.stationFrame p (hs.joinQueue p _)⟩
  | .obsWeight p _ _ => ⟨_, rfl, hs.stationFrame p (hs.joinQueue p _)⟩
  | .itemDone p _ => ⟨_, rfl, hs.stationFrame p (hs.joinQueue p _)⟩
  | .announce p cls cap => ⟨_, rfl, hs.stationFrame p (hs.takeAnnounce p cls cap)⟩
  | .pauseAck p => ⟨_, rfl, hs.stationFrame p (hs.ite fun _ => hs.endPause p _)⟩
  | .resumeAck p => ⟨_, rfl, hs.stationFrame p (hs.takeResumeAck p)⟩
  | .idle p => ⟨_, rfl, hs.stationFrame p hs⟩
  | .frameRejected port bytes => ⟨_, rfl, by
      split
      · exact hs.ite fun _ => hs.offerEvent _
      · exact hs⟩
  | .probeWindowExpiry p => ⟨_, rfl, hs.ite fun _ => hs.endProbe p _ _ _⟩
  | .pauseTimeout p => ⟨_, rfl, hs.ite fun _ => hs.endPause p _⟩
  | .resumeTimeout p => ⟨_, rfl, hs.ite fun _ => hs.enterFault p _ _⟩
  | .takeDefectRecord p => ⟨_, rfl, hs.takeRecord fun b h => by cases b <;> cases h; rfl⟩
  | .takeTagRecord p => ⟨_, rfl, hs.takeRecord fun b h => by cases b <;> cases h; rfl⟩
  | .takeWeightRecord p => ⟨_, rfl, hs.takeRecord fun b h => by cases b <;> cases h; rfl⟩
  | .takeItemDoneRecord p => ⟨_, rfl, hs.takeRecord fun b h => by cases b <;> cases h; rfl⟩
  | .gradingStart => ⟨_, rfl, hs.startGrading⟩
  | .gradingCompletion => ⟨_, rfl, by
      split
      · exact hs
      · next g hg => exact (hs.completeContext hg).handOver⟩
  | .decisionReq t => ⟨_, rfl, by
      obtain ⟨hmissed, hleft⟩ := hs.impliedMiss t
      exact hs.sorterFrame (hmissed.answerRequest hleft)⟩
  | .divertDone t k => ⟨_, rfl, hs.sorterFrame (by
      split
      · next o h => exact hs.deliver (List.mem_of_find?_eq_some h) t k
      · split
        · next o h => exact hs.deliverElsewhere (List.mem_of_find?_eq_some h) t k
        · exact hs.deliverUnordered t k)⟩
  | .divertMissed t k => ⟨_, rfl, hs.sorterFrame (by
      split
      · next o h => exact hs.missOrder (List.mem_of_find?_eq_some h)
      · exact hs.offerEvent _)⟩
  | .orderExpiry t k => ⟨_, rfl, by
      split
      · next o h => exact (hs.missOrder (List.mem_of_find?_eq_some h)).offerEvent _
      · exact hs⟩
  | .toteFull k => ⟨_, rfl, hs.sorterFrame (hs.toteFull k)⟩
  | .toteInPlace k x => ⟨_, rfl, hs.sorterFrame (hs.toteInPlace k x)⟩
  | .chuteJam k => ⟨_, rfl, hs.sorterFrame ((hs.modChute_flags rfl).chuteEvent k _)⟩
  | .chuteClear k => ⟨_, rfl, hs.sorterFrame ((hs.modChute_flags rfl).chuteEvent k _)⟩
  | .entrySent => ⟨_, rfl, by
      split
      · next rest _ _ =>
        have hsent : TotesSoundBut none none { s with outbound := rest, lineFinishing := none } := hs
        exact hsent.admitWaiting
      · exact hs⟩
  | .portFrameSent port => ⟨_, rfl, by cases port <;> exact hs⟩
  | .linkUp port => ⟨_, rfl, by cases port <;> exact hs⟩
  | .linkDown port => ⟨_, rfl, by
      cases port with
      | station p =>
        have hdown : TotesSoundBut none none { s with
          stationLinks := s.stationLinks.set p .down, stationTx := s.stationTx.set p [] } := hs
        exact hdown.losePortLink p
      | line => exact hs
      | sorter => exact hs⟩
  | .powerOnReset => ⟨_, rfl, totesSoundBut_reset⟩

end Commands

/-- Settles O56: the step is the command at the front of the queue, a running out, or a millisecond. -/
theorem stepKeepsTotesSound : Obligations.StepKeepsTotesSound := by
  intro s t hcontexts hs ht
  have hsound : TotesSoundBut none none s := (totesSoundBut_none s).mpr ⟨hcontexts, hs⟩
  suffices h : TotesSoundBut none none t from ((totesSoundBut_none t).mp h).2
  have hexec : ∀ c u, TotesSoundBut none none u → exec c u = .next t → TotesSoundBut none none t := by
    intro c u hu hc
    obtain ⟨v, hv, hkept⟩ := hu.exec c
    rw [hv] at hc
    cases hc
    exact hkept
  unfold step at ht
  split at ht
  · split at ht
    · exact hexec _ s hsound ht
    · cases ht
      exact hsound.tick
  · next c rest _ => exact hexec c { s with pending := rest } hsound ht

end Sys2Proof.Machine
end
